-- ==== Sys2Proof/Word.lean ====
section
/-! DEFINITION. The words of the block: bytes, 64-bit registers, 32-bit instruction words, and what memory outside the block
answers during a step. Sections of the manual: R6 (little-endian), R8 (64-bit registers), R41 (56-bit addresses), R49. -/

namespace Sys2Proof

/-- One byte. -/
abbrev Byte := BitVec 8
/-- A 64-bit register, general register or Yard word (R8, R235, R319). -/
abbrev Word := BitVec 64
/-- A 32-bit instruction word (R49). -/
abbrev Insn := BitVec 32
/-- A 64-byte line, a booking packet (R398) or a cache line (R327): byte i in bits [8i+7:8i]. -/
abbrev Line := BitVec 512
/-- A physical address (R41). -/
abbrev PAddr := BitVec 56

/-- What memory outside the block answers during one step (R2: it is not the block's).
A byte that `rd` lists at a physical address is what a read returns there; a read of an address it does not list gets an
error response (R42, R299). A write that touches an address of `wrErr` gets an error response. -/
structure Outside where
  rd    : List Host.Cell
  wrErr : List Nat
deriving DecidableEq, Repr

end Sys2Proof
end

