-- ==== Sys2Proof/Syntax.lean ====
section
/-! DEFINITION. The commands of the block: one constructor for each row of spec/opcode_table.json, with the row's operands.
A row is one whole step (95_what_each_step_holds.md). Instructions whose encoding the manual gives carry their 32-bit word;
scalar instructions (R323 gives no encoding) carry structured operands (log 6); slots carry the 96 operand bits of R62;
booking commands carry their 64-byte packet (R398). -/

namespace Sys2Proof

/-- Operand bits [95:0] of a slot word (R62). -/
abbrev Opnd := BitVec 96
/-- A booking packet (R398): byte i in bits [8i+7:8i]. -/
abbrev Packet := BitVec 512
/-- A unit id (R410): class in [15:8], physical index in [7:0]. -/
abbrev UnitId := BitVec 16

/-- Where and when a slot issues: its lane, its index in the lane's image and its leg cycle (R63, R94 SLOT). -/
structure SlotAt where
  lane  : BitVec 2
  idx   : BitVec 18
  cycle : BitVec 27
deriving DecidableEq, Repr

/-- Who makes a register write (R46, R47): the host, the scalar core at its privilege, another block; or the Coachman's firmware,
which queues on and aborts the channels whose client it is (R259, R292). -/
inductive Writer where
  | host | core | block | coach
deriving DecidableEq, Repr

/-- What an access needs of its span (R375). -/
inductive Access where
  | read | write | readWrite | fetch
deriving DecidableEq, Repr

/-- Integer operations of major opcodes 0x00 and 0x01 (R323: add, subtract, logic, set-less-than; log 6). -/
inductive IntOp where
  | add | sub | and | or | xor | slt | sltu
deriving DecidableEq, Repr

/-- Shifts and bit-field extract and insert of major opcode 0x03 (R323; log 6). -/
inductive ShiftOp where
  | sll | srl | sra
  | extractU | extractS | insert
deriving DecidableEq, Repr

/-- The amount of a shift: a register, or a fixed position and length. -/
inductive ShiftAmt where
  | reg (rb : BitVec 5)
  | imm (pos : BitVec 6) (len : BitVec 6)
deriving DecidableEq, Repr

/-- Conditions of a conditional branch (R323; log 6). -/
inductive Cond where
  | eq | ne | lt | ge | ltu | geu
deriving DecidableEq, Repr

/-- Scalar floating-point operations (R323; log 6), those the vector engine names element by element. -/
inductive FpOp where
  | add | sub | mul | div | min | max | fma | fnma | sqrt | neg | abs | rndi | cmpEq | cmpLt | cmpLe | cvt
deriving DecidableEq, Repr

/-- The synchronous causes of R354. -/
inductive Cause where
  | illegalOp | priv | align | illegalReturn | service
  | spanMiss | spanPerm | spanConflict | markA | markD | walkDevice | walkBus | walkFormat
  | tileBound | tileShape | nanFirst | yardOwner | tagMisuse | divZero | busError
deriving DecidableEq, Repr

/-- What a request arriving through the fabric asks for (R298). Plain accesses, the tagged operations of R33, a write that
sets its words full (R271), and a remote mailbox send (R255). -/
inductive FabOp where
  | read (n : Nat)
  | write (bytes : List Byte) (fill : Bool)
  | yput (v : Word) | ytake | ypeek | yfill | yempty | ytag
  | mbsend (n : BitVec 8) (v : Word)
deriving DecidableEq, Repr

/-- A request arriving through the fabric: its physical address, what it asks, whether the host sent it (R47), and whether
another request takes its bank's tailboard cycle so that it waits in the bank's queue (R33). -/
structure FabReq where
  addr   : PAddr
  op     : FabOp
  host   : Bool
  queued : Bool
deriving DecidableEq, Repr

/-- Requests whose response can fail to come (R299): of a transfer, at a stream position; the tag fill of a done action; the
translation of a descriptor; the core's remote tag or mailbox operation; the head entry of the store buffer; the Coachman's read of a
packet, its write of a receipt; and an access of a command that brings its own answer (log 29). -/
inductive Requester where
  | wbRead (ch : BitVec 6) (pos : BitVec 40)
  | wbWrite (ch : BitVec 6) (pos : BitVec 40)
  | wbFill (ch : BitVec 6)
  | coreRemote
  | storeDrain
  | packetRead
  | receipt
  | other
deriving DecidableEq, Repr

/-- A response to a request of a channel (R264, R274): to the read or the write issued at stream position `pos`, or to the tag fill
of a done action in another Yard (R273). -/
inductive WbRsp where
  | readOk (pos : BitVec 40) (data : List Byte)
  | readErr (pos : BitVec 40)
  | writeOk (pos : BitVec 40)
  | writeErr (pos : BitVec 40)
  | fillOk
  | fillErr
deriving DecidableEq, Repr

/-- An ATS completion (R289, R290): the host physical address, the length it covers and the permissions, or a refusal. -/
inductive AtsRsp where
  | ok (h : Word) (len : BitVec 40) (r w : Bool)
  | refused
deriving DecidableEq, Repr

/-- The commands. -/
inductive Instr where
  /-- POWER_ON_RESET (R436). -/
  | powerOnReset (pkg : BitVec 6) (blk : BitVec 4) (clamp : BitVec 4)
  /-- BLOCK_RESET (R437). -/
  | blockReset
  /-- PW_RESET_BLOCK (R435). -/
  | pwResetBlock (data : Word)
  /-- RESET_COMPLETE (R436). -/
  | resetComplete
  /-- PW_CORE_RUN (R438). -/
  | pwCoreRun (data : Word)
  /-- CORE_RESET_COMPLETE (R438). -/
  | coreResetComplete (o : Outside)
  /-- HORN_EDGE (R54). -/
  | hornEdge (c : BitVec 27)
  /-- LOCAL_HORN (R55). -/
  | localHorn
  /-- LEG_START (R58). -/
  | legStart
  /-- CHANGEOVER_END (R417). -/
  | changeoverEnd
  /-- LEG_MARGIN (R59). -/
  | legMargin
  /-- MX_ISSUE (R68). -/
  | mxIssue (at_ : SlotAt) (x : Opnd)
  /-- TF_ISSUE (R68). -/
  | tfIssue (at_ : SlotAt) (x : Opnd)
  /-- VX_ISSUE (R68). -/
  | vxIssue (at_ : SlotAt) (x : Opnd)
  /-- WB_STAGE (R280). -/
  | wbStage (at_ : SlotAt) (x : Opnd)
  /-- WB_FIRE (R69). -/
  | wbFire (at_ : SlotAt) (x : Opnd)
  /-- RL_SEND (R308). -/
  | rlSend (at_ : SlotAt) (x : Opnd)
  /-- YS_TAKE (R71). -/
  | ysTake (at_ : SlotAt) (x : Opnd)
  /-- YS_PEEK (R71). -/
  | ysPeek (at_ : SlotAt) (x : Opnd)
  /-- YS_PUT (R71). -/
  | ysPut (at_ : SlotAt) (x : Opnd)
  /-- YS_FILL (R71). -/
  | ysFill (at_ : SlotAt) (x : Opnd)
  /-- YS_EMPTY (R71). -/
  | ysEmpty (at_ : SlotAt) (x : Opnd)
  /-- YS_INC (R71). -/
  | ysInc (at_ : SlotAt) (x : Opnd)
  /-- YS_DEC (R71). -/
  | ysDec (at_ : SlotAt) (x : Opnd)
  /-- ML_PUBLISH (R73). -/
  | mlPublish (at_ : SlotAt) (x : Opnd)
  /-- GD_NOP (R67). -/
  | gdNop (at_ : SlotAt) (x : Opnd)
  /-- GD_EXPECT (R74). -/
  | gdExpect (at_ : SlotAt) (x : Opnd)
  /-- GD_INSPECT (R74). -/
  | gdInspect (at_ : SlotAt) (x : Opnd)
  /-- END (R66). -/
  | endLane (at_ : SlotAt) (x : Opnd)
  /-- MAIL_DRAW (R88). -/
  | mailDraw (k : BitVec 4)
  /-- MAIL_LINE_SEND (R316). -/
  | mailLineSend
  /-- MAIL_DRAW_RECORD (R315). -/
  | mailDrawRecord (k : BitVec 4)
  /-- RELAY_FRAME_ARRIVAL (R309). -/
  | relayFrameArrival (l : BitVec 3) (frame : BitVec 2208) (a : BitVec 27) (leaving : Bool)
  /-- RELAY_FRAME_LANDING (R311). -/
  | relayFrameLanding (l : BitVec 3)
  /-- LANE_DOWN (R312). -/
  | laneDown (port : BitVec 4)
  /-- DRAG_CHANGE (R303). -/
  | dragChange (levels : BitVec 24)
  /-- TMMA (R117). -/
  | tmma (w : Insn)
  /-- TMMV (R124). -/
  | tmmv (w : Insn)
  /-- MX_COMMIT (R109). -/
  | mxCommit
  /-- TDRAIN (R130). -/
  | tdrain (w : Insn)
  /-- TLD (R185). -/
  | tld (w : Insn) (o : Outside) (cut : Option (BitVec 7))
  /-- TST (R186). -/
  | tst (w : Insn) (o : Outside) (cut : Option (BitVec 7))
  /-- TSHAPE (R192). -/
  | tshape (w : Insn)
  /-- TZERO (R193). -/
  | tzero (w : Insn)
  /-- TRELEASE (R194). -/
  | trelease (w : Insn)
  /-- TSAVE (R198). -/
  | tsave (w : Insn) (o : Outside)
  /-- TRESTORE (R199). -/
  | trestore (w : Insn) (o : Outside)
  /-- TSCALE (R195). -/
  | tscale (w : Insn)
  /-- VADD (R208). -/
  | vadd (w : Insn)
  /-- VSUB (R208). -/
  | vsub (w : Insn)
  /-- VMUL (R208). -/
  | vmul (w : Insn)
  /-- VDIV (R208). -/
  | vdiv (w : Insn)
  /-- VMIN (R208). -/
  | vmin (w : Insn)
  /-- VMAX (R208). -/
  | vmax (w : Insn)
  /-- VFMA (R208). -/
  | vfma (w : Insn)
  /-- VFNMA (R208). -/
  | vfnma (w : Insn)
  /-- VSCALB (R212). -/
  | vscalb (w : Insn)
  /-- VAND (R208). -/
  | vand (w : Insn)
  /-- VOR (R208). -/
  | vor (w : Insn)
  /-- VXOR (R208). -/
  | vxor (w : Insn)
  /-- VSHL (R208). -/
  | vshl (w : Insn)
  /-- VSHRA (R208). -/
  | vshra (w : Insn)
  /-- VSHRL (R208). -/
  | vshrl (w : Insn)
  /-- VMOV (R208). -/
  | vmov (w : Insn)
  /-- VNEG (R208). -/
  | vneg (w : Insn)
  /-- VABS (R208). -/
  | vabs (w : Insn)
  /-- VSQRT (R208). -/
  | vsqrt (w : Insn)
  /-- VRNDI (R212). -/
  | vrndi (w : Insn)
  /-- VLOGB (R212). -/
  | vlogb (w : Insn)
  /-- VCVT (R212). -/
  | vcvt (w : Insn)
  /-- VRSUM (R223). -/
  | vrsum (w : Insn)
  /-- VRMAX (R223). -/
  | vrmax (w : Insn)
  /-- VRMIN (R223). -/
  | vrmin (w : Insn)
  /-- VSUMP (R224). -/
  | vsump (w : Insn)
  /-- VSETVL (R208). -/
  | vsetvl (w : Insn)
  /-- VBCAST (R208). -/
  | vbcast (w : Insn)
  /-- VCMPEQ (R213). -/
  | vcmpeq (w : Insn)
  /-- VCMPLT (R213). -/
  | vcmplt (w : Insn)
  /-- VCMPLE (R213). -/
  | vcmple (w : Insn)
  /-- VMAND (R208). -/
  | vmand (w : Insn)
  /-- VMOR (R208). -/
  | vmor (w : Insn)
  /-- VMNOT (R208). -/
  | vmnot (w : Insn)
  /-- VLD (R219). -/
  | vld (w : Insn) (o : Outside)
  /-- VST (R219). -/
  | vst (w : Insn) (o : Outside) (cut : Option (BitVec 11))
  /-- VGATH (R219). -/
  | vgath (w : Insn) (o : Outside)
  /-- VSCAT (R220). -/
  | vscat (w : Insn) (o : Outside) (cut : Option (BitVec 11))
  /-- VSPLIT (R225). -/
  | vsplit (w : Insn)
  /-- VJOINS (R226). -/
  | vjoins (w : Insn)
  /-- VJOIN (R226). -/
  | vjoin (w : Insn)
  /-- VX_COMMIT (R214). -/
  | vxCommit
  /-- YPUT (R237). -/
  | yput (w : Insn) (o : Outside)
  /-- YTAKE (R237). -/
  | ytake (w : Insn) (o : Outside)
  /-- YPEEK (R237). -/
  | ypeek (w : Insn) (o : Outside)
  /-- YFILL (R237). -/
  | yfill (w : Insn) (o : Outside)
  /-- YEMPTY (R237). -/
  | yempty (w : Insn) (o : Outside)
  /-- YTAG (R237). -/
  | ytag (w : Insn) (o : Outside)
  /-- YINC (R242). -/
  | yinc (w : Insn) (o : Outside)
  /-- YDEC (R242). -/
  | ydec (w : Insn) (o : Outside)
  /-- YWAIT (R242). -/
  | ywait (w : Insn) (o : Outside)
  /-- YCTR (R242). -/
  | yctr (w : Insn) (o : Outside)
  /-- MBSEND (R255). -/
  | mbsend (w : Insn) (o : Outside)
  /-- MBRECV (R255). -/
  | mbrecv (w : Insn) (o : Outside)
  /-- TAILBOARD_SERVE (R33). -/
  | tailboardServe (bank : BitVec 9)
  /-- WAKE_ARRIVAL (R247). -/
  | wakeArrival (id : BitVec 8)
  /-- BERTH_RESEND (R247). -/
  | berthResend (id : BitVec 8)
  /-- POLL_RETRY (R250). -/
  | pollRetry (id : BitVec 8)
  /-- REMOTE_RESEND (R241). -/
  | remoteResend (o : Outside)
  /-- WBQUEUE (R285). -/
  | wbqueue (w : Insn) (o : Outside)
  /-- WBABORT (R292). -/
  | wbabort (w : Insn)
  /-- WBSTAT (R284). -/
  | wbstat (w : Insn)
  /-- WB_CH_QUEUE (R289). -/
  | wbChQueue (ch : BitVec 6) (who : Writer) (data : Word) (o : Outside)
  /-- WB_CH_ABORT (R292). -/
  | wbChAbort (ch : BitVec 6) (who : Writer) (data : Word)
  /-- ATS_COMPLETION (R289). -/
  | atsCompletion (ch : BitVec 6) (r : AtsRsp)
  /-- ATS_TIMEOUT (R290). -/
  | atsTimeout (ch : BitVec 6)
  /-- ATS_INVALIDATE (R291). -/
  | atsInvalidate (pasid : BitVec 20) (va : Word) (len : Word)
  /-- WB_RESPONSE (R274). -/
  | wbResponse (ch : BitVec 6) (r : WbRsp)
  /-- WB_TRANSFER_COMPLETE (R275). -/
  | wbTransferComplete (ch : BitVec 6) (o : Outside)
  /-- WB_YARD_ONLY_COMPLETE (R281). -/
  | wbYardOnlyComplete (ch : BitVec 4)
  /-- FABRIC_REQUEST_ARRIVAL (R298). -/
  | fabricRequestArrival (q : FabReq)
  /-- FABRIC_TIMEOUT (R299). -/
  | fabricTimeout (who : Requester)
  /-- LATE_RESPONSE (R299). -/
  | lateResponse
  /-- INTEGER_REG_REG (R323). -/
  | integerRegReg (op : IntOp) (rd ra rb : BitVec 5)
  /-- INTEGER_REG_IMM (R323). -/
  | integerRegImm (op : IntOp) (rd ra : BitVec 5) (imm : Word)
  /-- LOAD_UPPER_IMMEDIATE (R323). -/
  | loadUpperImmediate (pcRel : Bool) (rd : BitVec 5) (imm : Word)
  /-- SHIFT_BITFIELD (R323). -/
  | shiftBitfield (op : ShiftOp) (rd ra : BitVec 5) (amt : ShiftAmt)
  /-- MULTIPLY (R323). -/
  | multiply (rd ra rb : BitVec 5)
  /-- DIV (R325). -/
  | div (rd ra rb : BitVec 5)
  /-- DIVU (R325). -/
  | divu (rd ra rb : BitVec 5)
  /-- REM (R325). -/
  | rem (rd ra rb : BitVec 5)
  /-- REMU (R325). -/
  | remu (rd ra rb : BitVec 5)
  /-- CONDITIONAL_SELECT (R323). -/
  | conditionalSelect (rd ra rb rc : BitVec 5)
  /-- LOAD (R326). -/
  | loadMem (sz : BitVec 2) (signed : Bool) (rd ra : BitVec 5) (disp : Word) (o : Outside)
  /-- STORE (R328); `bg`: an interrupt comes between the request and the response of a device store (R338). -/
  | storeMem (sz : BitVec 2) (rs ra : BitVec 5) (disp : Word) (bg : Bool) (o : Outside)
  /-- CONDITIONAL_BRANCH (R323). -/
  | conditionalBranch (c : Cond) (ra rb : BitVec 5) (disp : Word)
  /-- JUMP_AND_LINK (R323). -/
  | jumpAndLink (rd : BitVec 5) (disp : Word)
  /-- JUMP_AND_LINK_REGISTER (R323). -/
  | jumpAndLinkRegister (rd ra : BitVec 5) (disp : Word)
  /-- SCALAR_FP (R323). -/
  | scalarFp (op : FpOp) (dbl : Bool) (rd ra rb rc : BitVec 5)
  /-- RETX (R365). -/
  | retx (w : Insn) (o : Outside)
  /-- SVC (R344). -/
  | svc (w : Insn)
  /-- IFLUSH (R343). -/
  | iflush (w : Insn) (o : Outside)
  /-- FENCE (R344). -/
  | fence (w : Insn) (o : Outside)
  /-- WAITI (R344). -/
  | waiti (w : Insn)
  /-- MFS (R345). -/
  | mfs (w : Insn)
  /-- MTS (R345). -/
  | mts (w : Insn) (o : Outside)
  /-- CMO (R334). -/
  | cmo (w : Insn) (o : Outside)
  /-- SPINV (R384). -/
  | spinv (w : Insn) (o : Outside)
  /-- SPAN_WALK (R380). -/
  | spanWalk (va : Word) (w : Insn) (o : Outside)
  /-- STORE_BUFFER_DRAIN (R328). -/
  | storeBufferDrain (o : Outside)
  /-- L2_FILL (R330). -/
  | l2Fill (line : PAddr) (code : Bool) (o : Outside)
  /-- INTERRUPT_RECOGNITION (R337). -/
  | interruptRecognition
  /-- SYNC_FAULT_ENTRY (R351). -/
  | syncFaultEntry (c : Cause) (faddr : Word) (w : Insn)
  /-- TSB_SAVE_COMPLETE (R363). -/
  | tsbSaveComplete (o : Outside)
  /-- TIMER_EXPIRY (R357). -/
  | timerExpiry
  /-- DB_HALTREQ (R455). -/
  | dbHaltreq (data : Word)
  /-- DB_RESUME (R455). -/
  | dbResume (data : Word)
  /-- DEBUG_BREAKPOINT (R455). -/
  | debugBreakpoint (bp : BitVec 2)
  /-- YD_DBG_SEL (R252). -/
  | ydDbgSel (who : Writer) (data : Word)
  /-- DBG_READOUT_DONE (R252). -/
  | dbgReadoutDone
  /-- HWRESET (R257). -/
  | hwreset (who : Writer) (data : Word)
  /-- CM_CTRL_ENABLE (R393). -/
  | cmCtrlEnable (data : Word)
  /-- BOOKING_DOORBELL (R394). -/
  | bookingDoorbell (data : Word) (readErr : Option (BitVec 32))
  /-- REGISTER_WRITE (R11). -/
  | registerWrite (who : Writer) (off : BitVec 24) (sz8 : Bool) (data : Word)
  /-- IDENTIFY (R407). -/
  | identify (p : Packet)
  /-- FEATURE_OFFER (R404). -/
  | featureOffer (p : Packet)
  /-- FEATURE_ACCEPT (R404). -/
  | featureAccept (p : Packet)
  /-- CORE_ALERT (R409). -/
  | coreAlert (p : Packet)
  /-- RESET_CORE_ONLY (R438). -/
  | resetCoreOnly (p : Packet)
  /-- RESET_HARNESS_SOFT (R439). -/
  | resetHarnessSoft (p : Packet)
  /-- FW_LOAD (R406). -/
  | fwLoad (p : Packet) (image : Option (List Byte))
  /-- HARNESS_SET (R414). -/
  | harnessSet (p : Packet)
  /-- HARNESS_COMMIT (R416). -/
  | harnessCommit (p : Packet)
  /-- HARNESS_DISCARD (R415). -/
  | harnessDiscard (p : Packet)
  /-- HARNESS_READ (R407). -/
  | harnessRead (p : Packet)
  /-- TT_ADMIT (R419). -/
  | ttAdmit (p : Packet)
  /-- TT_ADMIT_DONE (R419). -/
  | ttAdmitDone
  /-- TT_WITHDRAW (R420). -/
  | ttWithdraw (p : Packet)
  /-- STOP (R421). -/
  | stopCmd (p : Packet)
  /-- SELF_TEST (R411). -/
  | selfTest (p : Packet)
  /-- UNIT_TEST_COMPLETE (R446). -/
  | unitTestComplete (u : UnitId) (pass : Bool)
  /-- GROUP_RESCUE (R251). -/
  | groupRescue (g : BitVec 8)
  /-- FENCE_STRIKE (R449). -/
  | fenceStrike (u : UnitId)
  /-- REINSTATE (R450). -/
  | reinstate (p : Packet)
  /-- SYNC_DUMP (R412). -/
  | syncDump (p : Packet)
  /-- SYNC_DUMP_DONE (R412). -/
  | syncDumpDone (err : Option (BitVec 32))
  /-- RECEIPT_POST (R395). -/
  | receiptPost (ok : Bool)
  /-- NOTIFY_WRITE (R396). -/
  | notifyWrite (ok : Bool)
  /-- ENERGY_SAMPLE (R429). -/
  | energySample (uj : BitVec 32)
  /-- LEG_ENERGY_WRITE (R429). -/
  | legEnergyWrite
  /-- TELEMETRY_LOST (R432). -/
  | telemetryLost
  /-- POWER_WINDOW_END (R431). -/
  | powerWindowEnd (mw : BitVec 32)
  /-- LANE_UP (R312). -/
  | laneUp (port : BitVec 4)
  /-- HARNESS_COMMIT_CHECK_DONE (R416). -/
  | harnessCommitCheckDone
deriving DecidableEq, Repr

end Sys2Proof
end

