-- ==== Sys2Proof/Decode.lean ====
section
/-! DEFINITION. The commands that a word of spec/opcode_table.json spells. No row of the table gives bits: its commands are
events, writes, packets and slots, not words; so no word spells one. -/

namespace Sys2Proof

/-- The command whose bits a word is, numbered as the table numbers them: none, as no row has bits. -/
def decodeTableWord (_nbits _w : Nat) : Option Instr := none

end Sys2Proof
end

