-- ==== Sys2Proof/Config.lean ====
section
/-! DEFINITION. What the manual leaves open: constants with no body, which no proof can evaluate (log 7), and what an
implementation fixes (the key and the version floor of R406). -/

namespace Sys2Proof

/-- An error of the block's cells (R236, R327, R332, R444): none; a bit of the Yard word at an offset, or more than a code corrects; a
parity error in the operand latches of a physical carriage, or in an accumulator entry, which holds `v` from then on; a parity error in
a line of an L1 cache; a bit of a line of the L2, or more than a code corrects. -/
inductive Upset where
  | calm
  | yardBit (w : BitVec 29)
  | yardWord (w : BitVec 29)
  | latch (i : BitVec 7)
  | acc (i : BitVec 16) (v : BitVec 32)
  | l1d (line : BitVec 50)
  | l1i (line : BitVec 50)
  | l2Bit (line : BitVec 50)
  | l2Word (line : BitVec 50)
deriving DecidableEq, Repr, Inhabited

end Sys2Proof

namespace Sys2Proof.Config

/-- The free values: the n-th value the model draws where the manual states none. -/
opaque freeWord : Nat → Word
/-- Free choices of one bit. -/
opaque freeBit : Nat → Bool
/-- The result of an operation whose value the manual does not state, by its operands: shifts by 64 and more, bit fields
that pass bit 63 (R323). The first argument names the operation. -/
opaque unstated : Nat → Word → Word → Word
/-- The upper 32 bits of a general register after a binary32 operation (R323 states none), by the result. -/
opaque fpUpper : BitVec 32 → BitVec 32
/-- Bits [25:0] of a scalar instruction's word, for which R323 gives no encoding. -/
opaque scalarBits : Instr → BitVec 26
/-- The cell error, if any, that strikes as the ACLK of a value of YD_TIME begins (log 53). -/
opaque upset : Nat → Upset
/-- Whether the boot ROM accepts an image's signature (R406: the key is in the boot ROM). -/
opaque sigValid : List Byte → Bool
/-- The version floor held in block fuses (R406). -/
opaque versionFloor : Nat

end Sys2Proof.Config
end

