-- ==== Sys2Proof/Machine/Bits.lean ====
section
/-! DEFINITION. Bit fields, byte order and the sparse tables that memory and registers are held in.
R6 (little-endian), R7 (bit ranges [hi:lo]). A table is a list of (key, value) pairs with keys rising, in which no entry
equals what an unlisted key reads as. -/

namespace Sys2Proof.Machine

/-- The field [hi:lo] of a word, as a number (R7). -/
def fld {n : Nat} (w : BitVec n) (hi lo : Nat) : Nat := (w.toNat >>> lo) % 2 ^ (hi + 1 - lo)

/-- Bit i of a word. -/
def bit {n : Nat} (w : BitVec n) (i : Nat) : Bool := w.getLsbD i

/-- The word with field [hi:lo] replaced by the low bits of v. -/
def setFld {n : Nat} (w : BitVec n) (hi lo : Nat) (v : Nat) : BitVec n :=
  let k := 2 ^ (hi + 1 - lo)
  BitVec.ofNat n (w.toNat - (fld w hi lo) * 2 ^ lo + (v % k) * 2 ^ lo)

/-- The word with bit i set to b. -/
def setBit {n : Nat} (w : BitVec n) (i : Nat) (b : Bool) : BitVec n := setFld w i i (if b then 1 else 0)

/-- The mask of bits [hi:lo]. -/
def maskOf (hi lo : Nat) : Word := BitVec.ofNat 64 ((2 ^ (hi + 1 - lo) - 1) * 2 ^ lo)

/-- Two's complement reading of the low n bits of v. -/
def sext (n v : Nat) : Int := if 2 ^ (n - 1) ≤ v % 2 ^ n then (v % 2 ^ n : Int) - 2 ^ n else (v % 2 ^ n : Int)

/-- The number a list of bytes spells, first byte least significant (R6). -/
def ofBytes : List Byte → Nat
  | [] => 0
  | b :: t => b.toNat + 256 * ofBytes t

/-- The n bytes of v, least significant first (R6). -/
def toBytes : Nat → Nat → List Byte
  | 0, _ => []
  | n + 1, v => BitVec.ofNat 8 v :: toBytes n (v / 256)

/-- The n bytes of a bit vector from byte i on. -/
def bytesAt {k : Nat} (w : BitVec k) (i n : Nat) : Nat := (w.toNat >>> (8 * i)) % 2 ^ (8 * n)

/-! ## Tables -/

section Tables
variable {β : Type} [DecidableEq β]

/-- What a table reads at key k; an unlisted key reads as d k. -/
def look (d : Nat → β) (k : Nat) : List (Nat × β) → β
  | [] => d k
  | (a, v) :: t => if a = k then v else look d k t

/-- The entries of a run of values from key lo on, less those an unlisted key reads as. -/
def cells (d : Nat → β) : Nat → List β → List (Nat × β)
  | _, [] => []
  | lo, v :: t => if v = d lo then cells d (lo + 1) t else (lo, v) :: cells d (lo + 1) t

/-- The table with keys lo, lo + 1, … set to the values of vs. -/
def splice (d : Nat → β) (lo : Nat) (vs : List β) (m : List (Nat × β)) : List (Nat × β) :=
  m.filter (fun c => decide (c.1 < lo)) ++ cells d lo vs ++ m.filter (fun c => decide (lo + vs.length ≤ c.1))

/-- The table with one key set. -/
def put (d : Nat → β) (k : Nat) (v : β) (m : List (Nat × β)) : List (Nat × β) := splice d k [v] m

/-- The values at keys lo to lo + n − 1. -/
def slice (d : Nat → β) (lo n : Nat) (m : List (Nat × β)) : List β :=
  let w := m.filter (fun c => decide (lo ≤ c.1) && decide (c.1 < lo + n))
  (List.range n).map (fun i => look d (lo + i) w)

/-- The canonical form: keys rising, no entry equal to what an unlisted key reads as. -/
def Table.wf (d : Nat → β) : List (Nat × β) → Bool
  | [] => true
  | [(a, v)] => decide (v ≠ d a)
  | (a, v) :: (b, w) :: t => decide (v ≠ d a) && decide (a < b) && Table.wf d ((b, w) :: t)

end Tables

/-- A byte memory in which an unlisted address reads zero. -/
abbrev Mem := List (Nat × Byte)

/-- An unlisted byte is zero (R436: every Yard word is zeroed; R171: a tile not in use reads as zero). -/
def zeroByte : Nat → Byte := fun _ => 0

/-- n bytes of a memory from address a on. -/
def Mem.read (m : Mem) (a n : Nat) : List Byte := slice zeroByte a n m

/-- A memory with the bytes bs written from address a on. -/
def Mem.write (m : Mem) (a : Nat) (bs : List Byte) : Mem := splice zeroByte a bs m

/-- The n-byte number at address a, little-endian. -/
def Mem.num (m : Mem) (a n : Nat) : Nat := ofBytes (m.read a n)

/-- A memory with the bytes [lo, lo + n) zeroed. -/
def Mem.clear (m : Mem) (lo n : Nat) : Mem := m.filter (fun c => decide (c.1 < lo) || decide (lo + n ≤ c.1))

/-- A memory is in canonical form. -/
def Mem.wf (m : Mem) : Bool := Table.wf zeroByte m

/-- Membership of a set held as a rising list. -/
def inSet (k : Nat) (l : List Nat) : Bool := l.contains k

/-- A rising set with k put in or taken out. -/
def setIn (k : Nat) (b : Bool) (l : List Nat) : List Nat :=
  l.filter (fun a => decide (a < k)) ++ (if b then [k] else []) ++ l.filter (fun a => decide (k < a))

/-- The least i < n with p i, searching upwards. -/
def findFrom (p : Nat → Bool) : Nat → Nat → Option Nat
  | 0, _ => none
  | n + 1, i => if p i then some i else findFrom p n (i + 1)

/-- The least i below n with p i. -/
def findBelow (n : Nat) (p : Nat → Bool) : Option Nat := findFrom p n 0

/-- Ceiling of a / b. -/
def cdiv (a b : Nat) : Nat := (a + b - 1) / b

/-! ## Frames (R307) -/

def crcBits : Nat → Nat → Nat
  | 0, c => c
  | n + 1, c => crcBits n (if c % 2 = 1 then (c / 2) ^^^ 0x82F63B78 else c / 2)

/-- CRC-32C of RFC 3720. -/
def crc32c (bs : List Byte) : Nat := (bs.foldl (fun c b => crcBits 8 (c ^^^ b.toNat)) 0xFFFFFFFF) ^^^ 0xFFFFFFFF

/-- The bytes of a frame. -/
def frameBytes (f : BitVec 2208) : List Byte := toBytes 276 f.toNat
def frameCrcOk (f : BitVec 2208) : Bool := decide (crc32c ((frameBytes f).take 272) = bytesAt f 272 4)

/-- The frame of header words w0 and w1 and a payload. -/
def mkFrame (w0 w1 : Nat) (payload : List Byte) : BitVec 2208 :=
  let body := toBytes 8 w0 ++ toBytes 8 w1 ++ payload
  BitVec.ofNat 2208 (ofBytes (body ++ toBytes 4 (crc32c body)))

end Sys2Proof.Machine
end

