-- ==== Sys2Proof/Machine/Float.lean ====
section
/-! DEFINITION. Binary floating point: exact values, rounding to nearest with ties to even, and the formats of R141 and R202.
R20, R141, R210 to R212 (IEEE 754 element arithmetic), R149 (the 40-bit pending sum), R152 (stochastic rounding). -/

namespace Sys2Proof.Machine

/-- A binary format: exponent bits and fraction bits (R141, R202). -/
structure Fmt where
  eb : Nat
  fb : Nat
deriving DecidableEq, Repr

/-- binary16, binary32 and binary64 (R141, R202). -/
def f16 : Fmt := ⟨5, 10⟩
def f32 : Fmt := ⟨8, 23⟩
def f64 : Fmt := ⟨11, 52⟩

/-- The bias, the exponent of the smallest normal, the largest exponent. -/
def Fmt.bias (f : Fmt) : Nat := 2 ^ (f.eb - 1) - 1
def Fmt.emin (f : Fmt) : Int := 1 - f.bias
def Fmt.emax (f : Fmt) : Int := f.bias
def Fmt.size (f : Fmt) : Nat := (f.eb + f.fb + 1) / 8

/-- A value: NaN (signalling or quiet), an infinity, or ± m · 2^e exactly (zero keeps a sign). -/
inductive FV where
  | nan (sig : Bool)
  | inf (neg : Bool)
  | fin (neg : Bool) (m : Nat) (e : Int)
deriving DecidableEq, Repr

/-- IEEE 754 exception flags in the bit order of VX_FLAGS [4:0] (R227): invalid, divide by zero, overflow, underflow, inexact. -/
abbrev FFlags := BitVec 5
def flInvalid : FFlags := 1
def flDivZero : FFlags := 2
def flOverflow : FFlags := 4
def flUnderflow : FFlags := 8
def flInexact : FFlags := 16

/-- Sign, exponent field and fraction of an encoding. -/
def Fmt.sign (f : Fmt) (x : Nat) : Bool := (x >>> (f.eb + f.fb)) % 2 = 1
def Fmt.expo (f : Fmt) (x : Nat) : Nat := (x >>> f.fb) % 2 ^ f.eb
def Fmt.frac (f : Fmt) (x : Nat) : Nat := x % 2 ^ f.fb

/-- The value of an encoding. -/
def Fmt.dec (f : Fmt) (x : Nat) : FV :=
  let n := f.sign x
  let e := f.expo x
  let m := f.frac x
  if e = 2 ^ f.eb - 1 then
    if m = 0 then .inf n else .nan (decide (m < 2 ^ (f.fb - 1)))
  else if e = 0 then .fin n m (f.emin - f.fb)
  else .fin n (m + 2 ^ f.fb) (f.emin - f.fb + (e - 1 : Nat))

/-- The canonical quiet NaN (R156, R211). -/
def Fmt.qnan (f : Fmt) : Nat := (2 ^ f.eb - 1) * 2 ^ f.fb + 2 ^ (f.fb - 1)
def Fmt.infBits (f : Fmt) (neg : Bool) : Nat := (if neg then 2 ^ (f.eb + f.fb) else 0) + (2 ^ f.eb - 1) * 2 ^ f.fb
/-- The largest finite magnitude's encoding, with a sign. -/
def Fmt.maxBits (f : Fmt) (neg : Bool) : Nat := f.infBits neg - 1
def Fmt.zero (f : Fmt) (neg : Bool) : Nat := if neg then 2 ^ (f.eb + f.fb) else 0
def Fmt.isSub (f : Fmt) (x : Nat) : Bool := f.expo x = 0 ∧ f.frac x ≠ 0

/-- Number of significant bits of m. -/
def bitLen (m : Nat) : Nat := if m = 0 then 0 else Nat.log2 m + 1

/-- Exponent of the leading bit of m · 2^e. -/
def topExp (m : Nat) (e : Int) : Int := e + (bitLen m : Int) - 1

/-- m · 2^e rounded to a multiple of 2^q, to nearest with ties to even: the multiple, and whether it is inexact. -/
def roundAt (m : Nat) (e q : Int) : Nat × Bool :=
  if q ≤ e then (m * 2 ^ (e - q).toNat, false)
  else
    let s := (q - e).toNat
    let k := m >>> s
    let r := m % 2 ^ s
    let up := decide (2 * r > 2 ^ s) || (decide (2 * r = 2 ^ s) && decide (k % 2 = 1))
    (if up then k + 1 else k, decide (r ≠ 0))

/-- m · 2^e truncated toward zero to a multiple of 2^q. -/
def truncAt (m : Nat) (e q : Int) : Nat :=
  if q ≤ e then m * 2 ^ (e - q).toNat else m >>> (q - e).toNat

/-- The quantum of a finite non-zero value in a format with gradual underflow. -/
def Fmt.quantum (f : Fmt) (m : Nat) (e : Int) : Int := max (topExp m e - f.fb) (f.emin - f.fb)

/-- The encoding of ± k · 2^q, where k has at most fb + 1 bits and q is its quantum. -/
def Fmt.enc (f : Fmt) (neg : Bool) (k : Nat) (q : Int) : Nat :=
  let s := f.zero neg
  if k = 0 then s
  else
    let t := topExp k q
    if t < f.emin then s + truncAt k q (f.emin - f.fb)
    else
      let m := truncAt k q (t - f.fb)
      s + ((t - f.emin).toNat + 1) * 2 ^ f.fb + (m - 2 ^ f.fb)

/-- Rounding of a finite exact value to a format, as IEEE 754 prescribes (R210): the encoding and its flags.
Underflow is detected after rounding. -/
def Fmt.round (f : Fmt) (neg : Bool) (m : Nat) (e : Int) : Nat × FFlags :=
  if m = 0 then (f.zero neg, 0)
  else
    let q := f.quantum m e
    let (k, ix) := roundAt m e q
    if k ≠ 0 ∧ topExp k q > f.emax then (f.infBits neg, flOverflow ||| flInexact)
    else
      let qu := topExp m e - f.fb
      let (ku, _) := roundAt m e qu
      let tiny := decide (topExp ku qu < f.emin)
      (f.enc neg k q, (if ix then flInexact else 0) ||| (if tiny && ix then flUnderflow else 0))

/-- Rounding that gives the largest finite value of the sign in place of an overflow (R111, R130, R162): the encoding and
whether it saturated. -/
def Fmt.roundSat (f : Fmt) (neg : Bool) (m : Nat) (e : Int) : Nat × Bool :=
  if m = 0 then (f.zero neg, false)
  else
    let q := f.quantum m e
    let (k, _) := roundAt m e q
    if k ≠ 0 ∧ topExp k q > f.emax then (f.maxBits neg, true) else (f.enc neg k q, false)

/-- Signed mantissas at a common exponent. -/
def signed (neg : Bool) (m : Nat) : Int := if neg then -(m : Int) else m

/-- A signed integer times 2^e as a value; zero takes the given sign. -/
def ofSigned (z : Int) (e : Int) (zneg : Bool) : FV :=
  if z = 0 then .fin zneg 0 e else .fin (decide (z < 0)) z.natAbs e

/-- The exact sum of two finite values at their smaller exponent. -/
def addZ (n1 : Bool) (m1 : Nat) (e1 : Int) (n2 : Bool) (m2 : Nat) (e2 : Int) : Int × Int :=
  let e := min e1 e2
  (signed n1 (m1 * 2 ^ (e1 - e).toNat) + signed n2 (m2 * 2 ^ (e2 - e).toNat), e)

/-- Exact sum of two values; an exact zero of unlike signs is +0 (round to nearest). -/
def FV.add : FV → FV → FV
  | .nan s, .nan t => .nan (s || t)
  | .nan s, _ => .nan s
  | _, .nan t => .nan t
  | .inf a, .inf b => if a = b then .inf a else .nan false
  | .inf a, _ => .inf a
  | _, .inf b => .inf b
  | .fin n1 m1 e1, .fin n2 m2 e2 =>
    let (z, e) := addZ n1 m1 e1 n2 m2 e2
    ofSigned z e (n1 && n2)

def FV.neg : FV → FV
  | .nan s => .nan s
  | .inf a => .inf (!a)
  | .fin n m e => .fin (!n) m e

def FV.isNan : FV → Bool
  | .nan _ => true
  | _ => false
def FV.isSig : FV → Bool
  | .nan s => s
  | _ => false
def FV.isFin : FV → Bool
  | .fin _ _ _ => true
  | _ => false
def FV.isZero : FV → Bool
  | .fin _ m _ => m = 0
  | _ => false
def FV.sgn : FV → Bool
  | .nan _ => false
  | .inf n => n
  | .fin n _ _ => n

/-- Exact product; an infinity times a zero is NaN. -/
def FV.mul : FV → FV → FV
  | .nan s, .nan t => .nan (s || t)
  | .nan s, _ => .nan s
  | _, .nan t => .nan t
  | .inf a, .inf b => .inf (a != b)
  | .inf a, .fin n m _ => if m = 0 then .nan false else .inf (a != n)
  | .fin n m _, .inf a => if m = 0 then .nan false else .inf (a != n)
  | .fin n1 m1 e1, .fin n2 m2 e2 => .fin (n1 != n2) (m1 * m2) (e1 + e2)

/-- Comparison of two values that are not NaN: a < b, and a = b (−0 equals +0). -/
def FV.lt : FV → FV → Bool
  | .inf a, .inf b => a && !b
  | .inf a, .fin _ _ _ => a
  | .fin _ _ _, .inf b => !b
  | .fin n1 m1 e1, .fin n2 m2 e2 => decide ((addZ n1 m1 e1 (!n2) m2 e2).1 < 0)
  | _, _ => false
def FV.eqv : FV → FV → Bool
  | .inf a, .inf b => a = b
  | .fin n1 m1 e1, .fin n2 m2 e2 => decide ((addZ n1 m1 e1 (!n2) m2 e2).1 = 0)
  | _, _ => false

/-- A value rounded into a format, with its flags; NaN becomes the canonical quiet NaN (R211). -/
def Fmt.ofFV (f : Fmt) : FV → Nat × FFlags
  | .nan _ => (f.qnan, 0)
  | .inf n => (f.infBits n, 0)
  | .fin n m e => f.round n m e

/-- Invalid is signalled by a signalling NaN input, and by a NaN made from inputs that are none (R211). -/
def invalidIf (ins : List FV) (out : FV) : FFlags :=
  if ins.any FV.isSig || (out.isNan && !ins.any FV.isNan) then flInvalid else 0

/-! ## Element operations of R208 on one format -/

def Fmt.fadd (f : Fmt) (a b : Nat) : Nat × FFlags :=
  let r := (f.dec a).add (f.dec b)
  let (x, fl) := f.ofFV r
  (x, fl ||| invalidIf [f.dec a, f.dec b] r)

/-- Negation of an encoding: the sign bit inverted (R208 VNEG). -/
def Fmt.fneg (f : Fmt) (a : Nat) : Nat := if f.sign a then a - f.zero true else a + f.zero true
def Fmt.fabs (f : Fmt) (a : Nat) : Nat := if f.sign a then a - f.zero true else a

def Fmt.fsub (f : Fmt) (a b : Nat) : Nat × FFlags :=
  let r := (f.dec a).add (f.dec b).neg
  let (x, fl) := f.ofFV r
  (x, fl ||| invalidIf [f.dec a, f.dec b] r)

def Fmt.fmul (f : Fmt) (a b : Nat) : Nat × FFlags :=
  let r := (f.dec a).mul (f.dec b)
  let (x, fl) := f.ofFV r
  (x, fl ||| invalidIf [f.dec a, f.dec b] r)

/-- The quotient of two finite non-zero values to more bits than any format holds, its last bit sticky. -/
def divQ (n1 : Bool) (m1 : Nat) (e1 : Int) (n2 : Bool) (m2 : Nat) (e2 : Int) : FV :=
  let s := 128 + bitLen m2
  let q := (m1 * 2 ^ s) / m2
  let r := (m1 * 2 ^ s) % m2
  .fin (n1 != n2) (2 * q + (if r = 0 then 0 else 1)) (e1 - e2 - s - 1)

def Fmt.fdiv (f : Fmt) (a b : Nat) : Nat × FFlags :=
  match f.dec a, f.dec b with
  | .nan s, .nan t => (f.qnan, if s || t then flInvalid else 0)
  | .nan s, _ => (f.qnan, if s then flInvalid else 0)
  | _, .nan t => (f.qnan, if t then flInvalid else 0)
  | .inf _, .inf _ => (f.qnan, flInvalid)
  | .inf x, .fin n _ _ => (f.infBits (x != n), 0)
  | .fin n _ _, .inf y => (f.zero (n != y), 0)
  | .fin n1 m1 e1, .fin n2 m2 e2 =>
    if m2 = 0 then
      if m1 = 0 then (f.qnan, flInvalid) else (f.infBits (n1 != n2), flDivZero)
    else if m1 = 0 then (f.zero (n1 != n2), 0)
    else f.ofFV (divQ n1 m1 e1 n2 m2 e2)

/-- Integer square root by bits: the largest r below 2^k with r² ≤ n, built from bit k − 1 down. -/
def isqrtGo (n : Nat) : Nat → Nat → Nat
  | 0, r => r
  | k + 1, r => let c := r + 2 ^ k; if c * c ≤ n then isqrtGo n k c else isqrtGo n k r
def isqrt (n : Nat) : Nat := isqrtGo n ((bitLen n + 1) / 2) 0

def Fmt.fsqrt (f : Fmt) (a : Nat) : Nat × FFlags :=
  match f.dec a with
  | .nan s => (f.qnan, if s then flInvalid else 0)
  | .inf n => if n then (f.qnan, flInvalid) else (f.infBits false, 0)
  | .fin n m e =>
    if m = 0 then (f.zero n, 0)
    else if n then (f.qnan, flInvalid)
    else
      let s : Nat := if (e - 128) % 2 = 0 then 128 else 129
      let big := m * 2 ^ s
      let r := isqrt big
      f.ofFV (.fin false (2 * r + (if r * r = big then 0 else 1)) ((e - s) / 2 - 1))

/-- vd × va + vb (or its negated product) with one rounding (R208, R210). Zero times infinity plus a quiet NaN signals invalid (DESIGN
CHOICE, log 50: IEEE 754 leaves it to the implementation). -/
def Fmt.ffma (f : Fmt) (negp : Bool) (d a b : Nat) : Nat × FFlags :=
  let p := (f.dec d).mul (f.dec a)
  let p' := if negp then p.neg else p
  let r := p'.add (f.dec b)
  let (x, fl) := f.ofFV r
  let pInv := p.isNan && !(f.dec d).isNan && !(f.dec a).isNan
  (x, fl ||| invalidIf [f.dec d, f.dec a, f.dec b] r ||| (if pInv then flInvalid else 0))

/-- IEEE 754 minimum and maximum: NaN if either input is NaN, −0 below +0 (R210, R211). -/
def Fmt.fmin (f : Fmt) (a b : Nat) : Nat × FFlags :=
  let x := f.dec a
  let y := f.dec b
  if x.isNan || y.isNan then (f.qnan, if x.isSig || y.isSig then flInvalid else 0)
  else if x.lt y then (a, 0) else if y.lt x then (b, 0) else (if f.sign a then a else b, 0)
def Fmt.fmax (f : Fmt) (a b : Nat) : Nat × FFlags :=
  let x := f.dec a
  let y := f.dec b
  if x.isNan || y.isNan then (f.qnan, if x.isSig || y.isSig then flInvalid else 0)
  else if x.lt y then (b, 0) else if y.lt x then (a, 0) else (if f.sign a then b else a, 0)

/-- Round to an integer, ties to even: the magnitude, and whether it is inexact. -/
def roundInt (m : Nat) (e : Int) : Nat × Bool := roundAt m e 0

/-- roundToIntegralTiesToEven; an integral result keeps the sign of its input (R212). -/
def Fmt.frndi (f : Fmt) (a : Nat) : Nat × FFlags :=
  match f.dec a with
  | .nan s => (f.qnan, if s then flInvalid else 0)
  | .inf n => (f.infBits n, 0)
  | .fin n m e => let (k, _) := roundInt m e; ((f.round n k 0).1, 0)

/-- logB (R212). -/
def Fmt.flogb (f : Fmt) (a : Nat) : Nat × FFlags :=
  match f.dec a with
  | .nan s => (f.qnan, if s then flInvalid else 0)
  | .inf _ => (f.infBits false, 0)
  | .fin _ m e =>
    if m = 0 then (f.infBits true, flDivZero)
    else let t := topExp m e; ((f.round (decide (t < 0)) t.natAbs 0).1, 0)

/-- scaleB(a, b): b must be an integral finite value, otherwise NaN and invalid (R212). -/
def Fmt.fscalb (f : Fmt) (a b : Nat) : Nat × FFlags :=
  match f.dec a, f.dec b with
  | _, .fin nb mb eb =>
    let (k, ix) := roundInt mb eb
    if ix then (f.qnan, flInvalid)
    else
      match f.dec a with
      | .nan s => (f.qnan, if s then flInvalid else 0)
      | .inf n => (f.infBits n, 0)
      | .fin n m e =>
        -- exponents beyond ±2^13 over- or underflow every format alike
        let k' : Int := signed nb (min k 8192)
        f.round n m (e + k')
  | _, _ => (f.qnan, flInvalid)

/-- Conversion between formats. -/
def Fmt.cvt (src dst : Fmt) (a : Nat) : Nat × FFlags :=
  let v := src.dec a
  let (x, fl) := dst.ofFV v
  (x, fl ||| (if v.isSig then flInvalid else 0))

/-- A 32-bit two's complement integer as a value. -/
def int32 (x : Nat) : Int := sext 32 x
def ofInt32 (z : Int) : Nat := (z % 2 ^ 32).toNat

/-- Floating point to INT32: nearest, ties to even, saturating; NaN gives 0; NaN and out of range signal invalid (R212). A value in
range that is no integer sets inexact (DESIGN CHOICE, log 50: IEEE 754 has a form that does and one that does not). -/
def Fmt.toInt32 (f : Fmt) (a : Nat) : Nat × FFlags :=
  match f.dec a with
  | .nan _ => (0, flInvalid)
  | .inf n => (if n then 0x80000000 else 0x7FFFFFFF, flInvalid)
  | .fin n m e =>
    let (k, ix) := roundInt m e
    let z := signed n k
    if z > 2 ^ 31 - 1 then (0x7FFFFFFF, flInvalid)
    else if z < -(2 ^ 31) then (0x80000000, flInvalid)
    else (ofInt32 z, if ix then flInexact else 0)

/-- An integer rounded into a format. -/
def Fmt.ofInt (f : Fmt) (z : Int) : Nat × FFlags := f.round (decide (z < 0)) z.natAbs 0

/-- Compares (R213): equal, less than, less or equal, with their flags. -/
def Fmt.cmpEq (f : Fmt) (a b : Nat) : Bool × FFlags :=
  ((f.dec a).eqv (f.dec b), if (f.dec a).isSig || (f.dec b).isSig then flInvalid else 0)
def Fmt.cmpLt (f : Fmt) (a b : Nat) : Bool × FFlags :=
  if (f.dec a).isNan || (f.dec b).isNan then (false, flInvalid) else ((f.dec a).lt (f.dec b), 0)
def Fmt.cmpLe (f : Fmt) (a b : Nat) : Bool × FFlags :=
  if (f.dec a).isNan || (f.dec b).isNan then (false, flInvalid)
  else ((f.dec a).lt (f.dec b) || (f.dec a).eqv (f.dec b), 0)

/-- Zero results become +0 (R157). -/
def Fmt.plusZero (f : Fmt) (a : Nat) : Nat := if a = f.zero true then 0 else a

end Sys2Proof.Machine
end

