-- ==== Sys2Proof/Machine/Regs.lean ====
section
/-! DEFINITION. The register maps of the MMIO window: every register by its window offset (R46), with its Reset value, the bits
each access code of R11 governs, and the bits a harness sets (R99, R140, R201, R227, R257, R295, R318, R367, R392, R423,
R452, R453, R454). A bit that no mask names is RO or reserved. -/

namespace Sys2Proof.Machine


/-! ## Names -/

def HN_PERIOD : Nat := 0x0
def HN_MARGIN : Nat := 0x8
def HN_CTRL : Nat := 0x10
def HN_TT_BASE : Nat := 0x18
def HN_TT_STATE : Nat := 0x20
def HN_LEG : Nat := 0x28
def HN_CYCLE : Nat := 0x30
def HN_HORN_STATUS : Nat := 0x38
def HN_GUARD_POLICY : Nat := 0x40
def HN_GUARD_IRQ : Nat := 0x48
def HN_GUARD_STATUS : Nat := 0x50
def HN_GUARD_LAST : Nat := 0x58
def HN_GUARD_DETAIL : Nat := 0x60
def HN_NANINFO : Nat := 0x68
def HN_MAIL_STATUS : Nat := 0x70
def HN_CNT_SATFLAGS : Nat := 0x78
def HN_HORN_EARLYCNT : Nat := 0x80
def HN_HORN_LOCALCNT : Nat := 0x88
def HN_YS_MISS : Nat := 0x90
def HN_GUARD_CNT (i : Nat) : Nat := 0xA0 + 8 * i
def HN_MAIL_DEADLINE (i : Nat) : Nat := 0x100 + 8 * i
def HN_MAIL_BUF (i : Nat) : Nat := 0x180 + 8 * i
def HN_MAIL_SUB (i : Nat) : Nat := 0x200 + 8 * i
def HN_MAIL_TAGW (i : Nat) : Nat := 0x280 + 8 * i
def MX_MODE : Nat := 0x10000
def MX_SUMMODE : Nat := 0x10008
def MX_SEED : Nat := 0x10010
def MX_FLAGS : Nat := 0x10018
def MX_SATFLAGS : Nat := 0x10020
def MX_ACCINUSE : Nat := 0x10028
def MX_ACCTYPE : Nat := 0x10030
def MX_NANINFO : Nat := 0x10038
def MX_NANPC : Nat := 0x10040
def MX_FAULTINFO : Nat := 0x10048
def MX_SUBST : Nat := 0x10050
def MX_CNT_DONE : Nat := 0x10058
def MX_CNT_ABANDON : Nat := 0x10060
def MX_ACCSCALE (i : Nat) : Nat := 0x10080 + 8 * i
def MX_CARMAP (i : Nat) : Nat := 0x10100 + 8 * i
def TF_START : Nat := 0x20000
def TF_INUSE : Nat := 0x20008
def TF_FLAGS : Nat := 0x20010
def TF_FAULTINFO : Nat := 0x20018
def TF_CNT_ROWS : Nat := 0x20020
def TF_CNT_REUSE : Nat := 0x20028
def TF_CONV (i : Nat) : Nat := 0x20080 + 8 * i
def TF_SHAPE (i : Nat) : Nat := 0x20100 + 8 * i
def VX_VL : Nat := 0x30000
def VX_FLAGS : Nat := 0x30008
def VX_FAULTINFO : Nat := 0x30010
def VX_CNT_DONE : Nat := 0x30018
def VX_CNT_ABANDON : Nat := 0x30020
def VX_CNT_BANKWAIT : Nat := 0x30028
def YD_TIME : Nat := 0x40000
def YD_CTR_FLAGS : Nat := 0x40008
def YD_IRQ : Nat := 0x40010
def YD_WR_STATUS : Nat := 0x40018
def YD_WR_FULLCNT : Nat := 0x40020
def YD_NWFAIL_CNT : Nat := 0x40028
def YD_MISUSE_CNT : Nat := 0x40030
def YD_REMOTE_POLL : Nat := 0x40038
def YD_ECC_CE : Nat := 0x40040
def YD_ECC_UE : Nat := 0x40048
def YD_CNT_SATFLAGS : Nat := 0x40050
def YD_DBG_SEL : Nat := 0x40058
def YD_DBG_VALUE : Nat := 0x40060
def YD_DBG_STATE : Nat := 0x40068
def YD_DBG_ENTRY (i : Nat) : Nat := 0x40070 + 8 * i
def YD_BERTHSET : Nat := 0x40090
def YD_GMAP : Nat := 0x40098
def YD_SUBST (i : Nat) : Nat := 0x400A0 + 8 * i
def YD_MBOX_FULL (i : Nat) : Nat := 0x40100 + 8 * i
def YD_OWNER (i : Nat) : Nat := 0x41000 + 8 * i
def YD_MBOX (i : Nat) : Nat := 0x42000 + 8 * i
def WB_TAGS : Nat := 0x50000
def WB_ATS_CTRL : Nat := 0x50008
def WB_QFAULT : Nat := 0x50010
def WB_IRQ_PEND : Nat := 0x50018
def WB_CNT_BYTES : Nat := 0x50020
def WB_CNT_PREEMPT : Nat := 0x50028
def WB_CNT_ATS : Nat := 0x50030
def WB_CNT_LATE : Nat := 0x50038
def WB_CNT_SATFLAGS : Nat := 0x50040
def WB_CH_CFG (i : Nat) : Nat := 0x51000 + 0x40 * i
def WB_CH_STATUS (i : Nat) : Nat := 0x51008 + 0x40 * i
def WB_CH_RESIDUE (i : Nat) : Nat := 0x51010 + 0x40 * i
def WB_CH_ERRADDR (i : Nat) : Nat := 0x51018 + 0x40 * i
def WB_CH_USER (i : Nat) : Nat := 0x51020 + 0x40 * i
def WB_CH_QUEUE (i : Nat) : Nat := 0x51028 + 0x40 * i
def WB_CH_CTRL (i : Nat) : Nat := 0x51030 + 0x40 * i
def RL_LANEMAP : Nat := 0x60000
def RL_DRAG : Nat := 0x60008
def RL_FAB_CTRL : Nat := 0x60010
def RL_FAB_INFLIGHT : Nat := 0x60018
def RL_CNT_FABTO : Nat := 0x60020
def RL_CNT_LATERSP : Nat := 0x60028
def RL_CNT_MAILDROP : Nat := 0x60030
def RL_CNT_SATFLAGS : Nat := 0x60038
def RL_LANE_CFG (i : Nat) : Nat := 0x60040 + 8 * i
def RL_LANE_STATUS (i : Nat) : Nat := 0x60080 + 8 * i
def RL_CNT_RX (i : Nat) : Nat := 0x600C0 + 8 * i
def RL_CNT_CRC (i : Nat) : Nat := 0x60100 + 8 * i
def RL_CNT_REFUSED (i : Nat) : Nat := 0x60140 + 8 * i
def RL_MAIL_BASE (i : Nat) : Nat := 0x60180 + 8 * i
def SC_STATUS : Nat := 0x70000
def SC_FFLAGS : Nat := 0x70008
def SC_MASK_S : Nat := 0x70010
def SC_VBASE_S : Nat := 0x70018
def SC_TSB_S : Nat := 0x70020
def SC_ORIGIN_S : Nat := 0x70028
def SC_IPEND : Nat := 0x70030
def SC_TCMP : Nat := 0x70038
def SC_IRQLEVEL : Nat := 0x70040
def SC_DOORBELL : Nat := 0x70048
def SC_LBE_ADDR : Nat := 0x70050
def SC_LBE_INFO : Nat := 0x70058
def SC_SEQ : Nat := 0x70060
def SC_MASK_M : Nat := 0x70080
def SC_VBASE_M : Nat := 0x70088
def SC_TSB_M : Nat := 0x70090
def SC_TSB_DF : Nat := 0x70098
def SC_ORIGIN_M : Nat := 0x700A0
def SC_TSB_BASE_S : Nat := 0x700A8
def SC_TSB_LIMIT_S : Nat := 0x700B0
def SC_ROUTE : Nat := 0x700B8
def SC_RSTINFO : Nat := 0x700C0
def SP_CTRL : Nat := 0x80000
def SP_TABLE : Nat := 0x80008
def SP_TABLEN : Nat := 0x80010
def SP_REFILL : Nat := 0x80018
def SP_WALKINFO : Nat := 0x80020
def SP_WALKADDR : Nat := 0x80028
def SP_CNT_WALK : Nat := 0x80030
def SP_CNT_WALKFAULT : Nat := 0x80038
def SP_CNT_SATFLAGS : Nat := 0x80040
def SP_SPAN_W0 (i : Nat) : Nat := 0x80100 + 0x20 * i
def SP_SPAN_W1 (i : Nat) : Nat := 0x80108 + 0x20 * i
def SP_SPAN_W2 (i : Nat) : Nat := 0x80110 + 0x20 * i
def SP_SPAN_W3 (i : Nat) : Nat := 0x80118 + 0x20 * i
def CM_IDENT : Nat := 0x90000
def CM_PLACE : Nat := 0x90008
def CM_FWVER : Nat := 0x90010
def CM_STATE : Nat := 0x90018
def CM_CTRL : Nat := 0x90020
def CM_STATUS : Nat := 0x90028
def CM_BOOK_BASE : Nat := 0x90030
def CM_BOOK_TAIL : Nat := 0x90038
def CM_BOOK_HEAD : Nat := 0x90040
def CM_RCPT_BASE : Nat := 0x90048
def CM_RCPT_TAIL : Nat := 0x90050
def CM_RCPT_HEAD : Nat := 0x90058
def CM_NOTIFY_ADDR : Nat := 0x90060
def CM_NOTIFY_CFG : Nat := 0x90068
def CM_FEAT (i : Nat) : Nat := 0x90070 + 8 * i
def CM_HARN : Nat := 0x90080
def CM_HARN_LEG : Nat := 0x90088
def CM_CNT_PACKETS : Nat := 0x90090
def CM_CNT_RDROP : Nat := 0x90098
def CM_CNT_SATFLAGS : Nat := 0x900A0
def PW_STATUS : Nat := 0xA0000
def PW_CAP : Nat := 0xA0008
def PW_CLKCTL : Nat := 0xA0010
def PW_MARGIN : Nat := 0xA0018
def PW_ENERGY : Nat := 0xA0020
def PW_EVENT : Nat := 0xA0028
def PW_RESET : Nat := 0xA0030
def PW_CORE : Nat := 0xA0038
def PW_BOOTPC : Nat := 0xA0040
def PW_CNT_BASE : Nat := 0xA0048
def PW_GATE (i : Nat) : Nat := 0xA0100 + 8 * i
def HL_ALERT : Nat := 0xB0000
def HL_THRESH : Nat := 0xB0008
def HL_TEST : Nat := 0xB0010
def HL_FENCE_STRIKE : Nat := 0xB0018
def HL_STRIKE_LAST : Nat := 0xB0020
def HL_ERR_CORE : Nat := 0xB0028
def HL_DEAD (i : Nat) : Nat := 0xB0040 + 8 * i
def HL_FENCE (i : Nat) : Nat := 0xB0080 + 8 * i
def HL_PASS (i : Nat) : Nat := 0xB00C0 + 8 * i
def HL_REINST (i : Nat) : Nat := 0xB0100 + 8 * i
def HL_ERR_CAR (i : Nat) : Nat := 0xB1000 + 8 * i
def HL_ERR_GRP (i : Nat) : Nat := 0xB1400 + 8 * i
def HL_ERR_LANE (i : Nat) : Nat := 0xB2000 + 8 * i
def DB_CTRL : Nat := 0xC0000
def DB_STATUS : Nat := 0xC0008
def DB_PC : Nat := 0xC0010
def DB_BREAK (i : Nat) : Nat := 0xC0020 + 8 * i
def DB_GREG (i : Nat) : Nat := 0xC0100 + 8 * i

/-! ## Maps -/

/-- One row of a register map: `n` registers from offset `base` on, `stride` bytes apart.
`rw`, `w1c`: the bits with those access codes; `sat`: bits [47:0] are a SAT count; `harn`: the bits a harness sets. -/
structure RegRow where
  base   : Nat
  n      : Nat
  stride : Nat
  reset  : Word
  rw     : Word
  w1c    : Word
  sat    : Bool
  harn   : Word
deriving DecidableEq, Repr

/-- The HN sub-window. -/
def hnRows : List RegRow := [
  ⟨0x0, 1, 0x8, 0x2AB98, 0x0, 0x0, false, 0x7FFFFFF⟩,
  ⟨0x8, 1, 0x8, 0x1000, 0x0, 0x0, false, 0xFFFFF⟩,
  ⟨0x10, 1, 0x8, 0x0, 0x0, 0x0, false, 0xFC07⟩,
  ⟨0x18, 1, 0x8, 0x0, 0x0, 0x0, false, 0x1FFFFFC0⟩,
  ⟨0x20, 1, 0x8, 0x0, 0x0, 0x0, false, 0x0⟩,
  ⟨0x28, 1, 0x8, 0x0, 0x0, 0x0, false, 0x0⟩,
  ⟨0x30, 1, 0x8, 0x0, 0x0, 0x0, false, 0x0⟩,
  ⟨0x38, 1, 0x8, 0x0, 0x0, 0x1C, false, 0x0⟩,
  ⟨0x40, 1, 0x8, 0x0, 0x0, 0x0, false, 0xFFFC⟩,
  ⟨0x48, 1, 0x8, 0x0, 0xFFFFFFF0, 0x0, false, 0x0⟩,
  ⟨0x50, 1, 0x8, 0x0, 0x0, 0xFE, false, 0x0⟩,
  ⟨0x58, 1, 0x8, 0x0, 0x0, 0x0, false, 0x0⟩,
  ⟨0x60, 1, 0x8, 0x0, 0x0, 0x0, false, 0x0⟩,
  ⟨0x68, 1, 0x8, 0x0, 0x0, 0x0, false, 0x0⟩,
  ⟨0x70, 1, 0x8, 0x0, 0x0, 0xFFFFFFFFFFFF, false, 0x0⟩,
  ⟨0x78, 1, 0x8, 0x0, 0x0, 0xFE07, false, 0x0⟩,
  ⟨0x80, 1, 0x8, 0x0, 0x0, 0x0, true, 0x0⟩,
  ⟨0x88, 1, 0x8, 0x0, 0x0, 0x0, true, 0x0⟩,
  ⟨0x90, 1, 0x8, 0x0, 0x0, 0x0, true, 0x0⟩,
  ⟨0xA8, 7, 0x8, 0x0, 0x0, 0x0, true, 0x0⟩,
  ⟨0x100, 16, 0x8, 0x0, 0x0, 0x0, false, 0x8000000007FFFFFF⟩,
  ⟨0x180, 16, 0x8, 0x0, 0x0, 0x0, false, 0x3FF00001FFFFFC0⟩,
  ⟨0x200, 16, 0x8, 0x0, 0x0, 0x0, false, 0x3FF00001FFFFFC0⟩,
  ⟨0x280, 16, 0x8, 0x0, 0x0, 0x0, false, 0x1FFFFFF8⟩]

/-- The MX sub-window. -/
def mxRows : List RegRow := [
  ⟨0x10000, 1, 0x8, 0x2, 0x0, 0x0, false, 0x9B⟩,
  ⟨0x10008, 1, 0x8, 0x0, 0x0, 0x0, false, 0xFFFFFFFF⟩,
  ⟨0x10010, 1, 0x8, 0x0, 0x0, 0x0, false, 0xFFFFFFFFFFFFFFFF⟩,
  ⟨0x10018, 1, 0x8, 0x0, 0x0, 0xC7, false, 0x0⟩,
  ⟨0x10020, 1, 0x8, 0x0, 0x0, 0xFFFF, false, 0x0⟩,
  ⟨0x10028, 1, 0x8, 0x0, 0x0, 0x0, false, 0x0⟩,
  ⟨0x10030, 1, 0x8, 0x0, 0x0, 0x0, false, 0x0⟩,
  ⟨0x10038, 1, 0x8, 0x0, 0x0, 0x8000000000000000, false, 0x0⟩,
  ⟨0x10040, 1, 0x8, 0x0, 0x0, 0x0, false, 0x0⟩,
  ⟨0x10048, 1, 0x8, 0x0, 0x0, 0x0, false, 0x0⟩,
  ⟨0x10050, 1, 0x8, 0x0, 0x0, 0xFFFFFFFFFFFFFFFF, false, 0x0⟩,
  ⟨0x10058, 1, 0x8, 0x0, 0x0, 0x0, true, 0x0⟩,
  ⟨0x10060, 1, 0x8, 0x0, 0x0, 0x0, true, 0x0⟩,
  ⟨0x10080, 16, 0x8, 0x3F800000, 0xFFFFFFFF, 0x0, false, 0x0⟩,
  ⟨0x10100, 8, 0x8, 0x0, 0x0, 0x0, false, 0x0⟩]

/-- The TF sub-window. -/
def tfRows : List RegRow := [
  ⟨0x20000, 1, 0x8, 0x0, 0x8000000F003F000F, 0x0, false, 0x0⟩,
  ⟨0x20008, 1, 0x8, 0x0, 0x0, 0x0, false, 0x0⟩,
  ⟨0x20010, 1, 0x8, 0x0, 0x0, 0xC3, false, 0x0⟩,
  ⟨0x20018, 1, 0x8, 0x0, 0x0, 0x0, false, 0x0⟩,
  ⟨0x20020, 1, 0x8, 0x0, 0x0, 0x0, true, 0x0⟩,
  ⟨0x20028, 1, 0x8, 0x0, 0x0, 0x0, true, 0x0⟩,
  ⟨0x20080, 8, 0x8, 0x3F80000000000000, 0xFFFFFFFF00000FF1, 0x0, false, 0xFFFFFFFF00000FF1⟩,
  ⟨0x20100, 16, 0x8, 0xF3F, 0x0, 0x0, false, 0x0⟩]

/-- The VX sub-window. -/
def vxRows : List RegRow := [
  ⟨0x30000, 1, 0x8, 0x0, 0x0, 0x0, false, 0x0⟩,
  ⟨0x30008, 1, 0x8, 0x0, 0x0, 0x71F, false, 0x0⟩,
  ⟨0x30010, 1, 0x8, 0x0, 0x0, 0x0, false, 0x0⟩,
  ⟨0x30018, 1, 0x8, 0x0, 0x0, 0x0, true, 0x0⟩,
  ⟨0x30020, 1, 0x8, 0x0, 0x0, 0x0, true, 0x0⟩,
  ⟨0x30028, 1, 0x8, 0x0, 0x0, 0x0, true, 0x0⟩]

/-- The YD sub-window. -/
def ydRows : List RegRow := [
  ⟨0x40000, 1, 0x8, 0x0, 0x0, 0x0, false, 0x0⟩,
  ⟨0x40008, 1, 0x8, 0x0, 0x0, 0x3, false, 0x0⟩,
  ⟨0x40010, 1, 0x8, 0x0, 0xFF, 0x0, false, 0x0⟩,
  ⟨0x40018, 1, 0x8, 0x0, 0x0, 0x0, false, 0x0⟩,
  ⟨0x40020, 1, 0x8, 0x0, 0x0, 0x0, true, 0x0⟩,
  ⟨0x40028, 1, 0x8, 0x0, 0x0, 0x0, true, 0x0⟩,
  ⟨0x40030, 1, 0x8, 0x0, 0x0, 0x0, true, 0x0⟩,
  ⟨0x40038, 1, 0x8, 0x0, 0x0, 0x0, true, 0x0⟩,
  ⟨0x40040, 1, 0x8, 0x0, 0x0, 0x0, true, 0x0⟩,
  ⟨0x40048, 1, 0x8, 0x0, 0x0, 0x8000000000000000, false, 0x0⟩,
  ⟨0x40050, 1, 0x8, 0x0, 0x0, 0x1F, false, 0x0⟩,
  ⟨0x40058, 1, 0x8, 0x8000000000000000, 0x0, 0x0, false, 0x0⟩,
  ⟨0x40060, 1, 0x8, 0x0, 0x0, 0x0, false, 0x0⟩,
  ⟨0x40068, 1, 0x8, 0x0, 0x0, 0x0, false, 0x0⟩,
  ⟨0x40070, 4, 0x8, 0x0, 0x0, 0x0, false, 0x0⟩,
  ⟨0x40090, 1, 0x8, 0xFFFFFFFFFFFFFFFF, 0x0, 0x0, false, 0xFFFFFFFFFFFFFFFF⟩,
  ⟨0x40098, 1, 0x8, 0x0, 0x0, 0x4000400040004000, false, 0x0⟩,
  ⟨0x400A0, 4, 0x8, 0x0, 0x0, 0xFFFFFFFFFFFFFFFF, false, 0x0⟩,
  ⟨0x40100, 4, 0x8, 0x0, 0x0, 0x0, false, 0x0⟩,
  ⟨0x41000, 256, 0x8, 0x1, 0x0, 0x0, false, 0x7⟩,
  ⟨0x42000, 256, 0x8, 0x0, 0x0, 0x0, false, 0x0⟩]

/-- The WB sub-window. -/
def wbRows : List RegRow := [
  ⟨0x50000, 1, 0x8, 0x0, 0x0, 0x0, false, 0x0⟩,
  ⟨0x50008, 1, 0x8, 0x8, 0xFF, 0x0, false, 0x0⟩,
  ⟨0x50010, 1, 0x8, 0x0, 0x0, 0x8000000000000000, false, 0x0⟩,
  ⟨0x50018, 1, 0x8, 0x0, 0x0, 0x0, false, 0x0⟩,
  ⟨0x50020, 1, 0x8, 0x0, 0x0, 0x0, true, 0x0⟩,
  ⟨0x50028, 1, 0x8, 0x0, 0x0, 0x0, true, 0x0⟩,
  ⟨0x50030, 1, 0x8, 0x0, 0x0, 0x0, true, 0x0⟩,
  ⟨0x50038, 1, 0x8, 0x0, 0x0, 0x0, true, 0x0⟩,
  ⟨0x50040, 1, 0x8, 0x0, 0x0, 0xF, false, 0x0⟩,
  ⟨0x51000, 56, 0x40, 0x1, 0x0, 0x0, false, 0xF37⟩,
  ⟨0x51008, 56, 0x40, 0x0, 0x0, 0x1F00000000, false, 0x0⟩,
  ⟨0x51010, 56, 0x40, 0x0, 0x0, 0x0, false, 0x0⟩,
  ⟨0x51018, 56, 0x40, 0x0, 0x0, 0x0, false, 0x0⟩,
  ⟨0x51020, 56, 0x40, 0x0, 0x0, 0x0, false, 0x0⟩,
  ⟨0x51028, 56, 0x40, 0x0, 0x0, 0x0, false, 0x0⟩,
  ⟨0x51030, 56, 0x40, 0x0, 0x0, 0x0, false, 0x0⟩]

/-- The RL sub-window. -/
def rlRows : List RegRow := [
  ⟨0x60000, 1, 0x8, 0x876543210, 0x0, 0x0, false, 0x0⟩,
  ⟨0x60008, 1, 0x8, 0x0, 0x0, 0xFFF00000000, false, 0x0⟩,
  ⟨0x60010, 1, 0x8, 0x20, 0xFF, 0x0, false, 0x0⟩,
  ⟨0x60018, 1, 0x8, 0x0, 0x0, 0x0, false, 0x0⟩,
  ⟨0x60020, 1, 0x8, 0x0, 0x0, 0x0, true, 0x0⟩,
  ⟨0x60028, 1, 0x8, 0x0, 0x0, 0x0, true, 0x0⟩,
  ⟨0x60030, 1, 0x8, 0x0, 0x0, 0x0, true, 0x0⟩,
  ⟨0x60038, 1, 0x8, 0x0, 0x0, 0x7FFFFFF, false, 0x0⟩,
  ⟨0x60040, 8, 0x8, 0x0, 0x0, 0x0, false, 0x80000000000FFFFF⟩,
  ⟨0x60080, 8, 0x8, 0x0, 0x0, 0x6000000000000000, false, 0x0⟩,
  ⟨0x600C0, 8, 0x8, 0x0, 0x0, 0x0, true, 0x0⟩,
  ⟨0x60100, 8, 0x8, 0x0, 0x0, 0x0, true, 0x0⟩,
  ⟨0x60140, 8, 0x8, 0x0, 0x0, 0x0, true, 0x0⟩,
  ⟨0x60180, 16, 0x8, 0x0, 0x0, 0x0, false, 0xFFFFFFFFFFFFC0⟩]

/-- The SC sub-window. -/
def scRows : List RegRow := [
  ⟨0x70000, 1, 0x8, 0x2, 0x0, 0x0, false, 0x0⟩,
  ⟨0x70008, 1, 0x8, 0x0, 0x0, 0x1F, false, 0x0⟩,
  ⟨0x70010, 1, 0x8, 0xF, 0xF, 0x0, false, 0x0⟩,
  ⟨0x70018, 1, 0x8, 0x0, 0xFFFFFFFFFFFFFE00, 0x0, false, 0x0⟩,
  ⟨0x70020, 1, 0x8, 0x0, 0xFFFFFFFFFFFE00, 0x0, false, 0x0⟩,
  ⟨0x70028, 1, 0x8, 0x0, 0xFFFFFFFF, 0x0, false, 0x0⟩,
  ⟨0x70030, 1, 0x8, 0x0, 0x0, 0x230000000000, false, 0x0⟩,
  ⟨0x70038, 1, 0x8, 0xFFFFFFFFFFFFFFFF, 0xFFFFFFFFFFFFFFFF, 0x0, false, 0x0⟩,
  ⟨0x70040, 1, 0x8, 0x0, 0xFF, 0x0, false, 0x0⟩,
  ⟨0x70048, 1, 0x8, 0x0, 0x800000001FFFFFF8, 0x0, false, 0x0⟩,
  ⟨0x70050, 1, 0x8, 0x0, 0x0, 0x0, false, 0x0⟩,
  ⟨0x70058, 1, 0x8, 0x0, 0x0, 0xC000000000000000, false, 0x0⟩,
  ⟨0x70060, 1, 0x8, 0x0, 0x0, 0x0, false, 0x0⟩,
  ⟨0x70080, 1, 0x8, 0xF, 0xF, 0x0, false, 0x0⟩,
  ⟨0x70088, 1, 0x8, 0x0, 0xFFFFFFFFFFFFFE00, 0x0, false, 0x0⟩,
  ⟨0x70090, 1, 0x8, 0x0, 0xFFFFFFFFFFFE00, 0x0, false, 0x0⟩,
  ⟨0x70098, 1, 0x8, 0x0, 0xFFFFFFFFFFFE00, 0x0, false, 0x0⟩,
  ⟨0x700A0, 1, 0x8, 0x0, 0xFFFFFFFF, 0x0, false, 0x0⟩,
  ⟨0x700A8, 1, 0x8, 0x0, 0xFFFFFFFFFFFE00, 0x0, false, 0x0⟩,
  ⟨0x700B0, 1, 0x8, 0x0, 0xFFFFFFFFFFFE00, 0x0, false, 0x0⟩,
  ⟨0x700B8, 1, 0x8, 0x30000000000, 0x7CFE02000000, 0x0, false, 0x0⟩,
  ⟨0x700C0, 1, 0x8, 0x0, 0x0, 0x8000000000000000, false, 0x0⟩]

/-- The SP sub-window. -/
def spRows : List RegRow := [
  ⟨0x80000, 1, 0x8, 0x0, 0xF1, 0x0, false, 0x0⟩,
  ⟨0x80008, 1, 0x8, 0x0, 0xFFFFFFFFFFFFE0, 0x0, false, 0x0⟩,
  ⟨0x80010, 1, 0x8, 0x0, 0x1FFF, 0x0, false, 0x0⟩,
  ⟨0x80018, 1, 0x8, 0x10, 0x0, 0x0, false, 0x0⟩,
  ⟨0x80020, 1, 0x8, 0x0, 0x0, 0x8000000000000000, false, 0x0⟩,
  ⟨0x80028, 1, 0x8, 0x0, 0x0, 0x0, false, 0x0⟩,
  ⟨0x80030, 1, 0x8, 0x0, 0x0, 0x0, true, 0x0⟩,
  ⟨0x80038, 1, 0x8, 0x0, 0x0, 0x0, true, 0x0⟩,
  ⟨0x80040, 1, 0x8, 0x0, 0x0, 0x3, false, 0x0⟩,
  ⟨0x80100, 32, 0x20, 0x0, 0xFFFFFFFFFF0000, 0x0, false, 0x0⟩,
  ⟨0x80108, 32, 0x20, 0x0, 0xFFFFFFFFFF, 0x0, false, 0x0⟩,
  ⟨0x80110, 32, 0x20, 0x0, 0xFFFFFFFFFF0000, 0x0, false, 0x0⟩,
  ⟨0x80118, 32, 0x20, 0x0, 0x8000000000000F8F, 0x0, false, 0x0⟩]

/-- The CM sub-window. -/
def cmRows : List RegRow := [
  ⟨0x90000, 1, 0x8, 0xB1C0003, 0x0, 0x0, false, 0x0⟩,
  ⟨0x90008, 1, 0x8, 0x0, 0x0, 0x0, false, 0x0⟩,
  ⟨0x90010, 1, 0x8, 0x0, 0x0, 0x0, false, 0x0⟩,
  ⟨0x90018, 1, 0x8, 0x0, 0x0, 0x0, false, 0x0⟩,
  ⟨0x90020, 1, 0x8, 0x5400, 0xFF01, 0x0, false, 0x0⟩,
  ⟨0x90028, 1, 0x8, 0x0, 0x0, 0x7, false, 0x0⟩,
  ⟨0x90030, 1, 0x8, 0x0, 0xFFFFFFFFFFFC00, 0x0, false, 0x0⟩,
  ⟨0x90038, 1, 0x8, 0x0, 0xFFFFFFFF, 0x0, false, 0x0⟩,
  ⟨0x90040, 1, 0x8, 0x0, 0x0, 0x0, false, 0x0⟩,
  ⟨0x90048, 1, 0x8, 0x0, 0xFFFFFFFFFFFC00, 0x0, false, 0x0⟩,
  ⟨0x90050, 1, 0x8, 0x0, 0x0, 0x0, false, 0x0⟩,
  ⟨0x90058, 1, 0x8, 0x0, 0xFFFFFFFF, 0x0, false, 0x0⟩,
  ⟨0x90060, 1, 0x8, 0x0, 0xFFFFFFFFFFFFFC, 0x0, false, 0x0⟩,
  ⟨0x90068, 1, 0x8, 0x4, 0xFFFFFFFF000000FF, 0x0, false, 0x0⟩,
  ⟨0x90070, 2, 0x8, 0x0, 0x0, 0x0, false, 0x0⟩,
  ⟨0x90080, 1, 0x8, 0x0, 0x0, 0x0, false, 0x0⟩,
  ⟨0x90088, 1, 0x8, 0x0, 0x0, 0x0, false, 0x0⟩,
  ⟨0x90090, 1, 0x8, 0x0, 0x0, 0x0, true, 0x0⟩,
  ⟨0x90098, 1, 0x8, 0x0, 0x0, 0x0, true, 0x0⟩,
  ⟨0x900A0, 1, 0x8, 0x0, 0x0, 0x3, false, 0x0⟩]

/-- The PW sub-window. -/
def pwRows : List RegRow := [
  ⟨0xA0000, 1, 0x8, 0x0, 0x0, 0x0, false, 0x0⟩,
  ⟨0xA0008, 1, 0x8, 0x4B0, 0x0, 0x0, false, 0x7FF⟩,
  ⟨0xA0010, 1, 0x8, 0x0, 0x0, 0x0, false, 0x1⟩,
  ⟨0xA0018, 1, 0x8, 0x10FF, 0x0, 0x0, false, 0xFF00⟩,
  ⟨0xA0020, 1, 0x8, 0x0, 0x0, 0x0, false, 0x0⟩,
  ⟨0xA0028, 1, 0x8, 0x0, 0x0, 0x3, false, 0x0⟩,
  ⟨0xA0030, 1, 0x8, 0x0, 0x0, 0x0, false, 0x0⟩,
  ⟨0xA0038, 1, 0x8, 0x0, 0x2, 0x0, false, 0x0⟩,
  ⟨0xA0040, 1, 0x8, 0x0, 0xFFFFFFFFFFFFFC, 0x0, false, 0x0⟩,
  ⟨0xA0048, 1, 0x8, 0x0, 0x0, 0x8000000000000000, true, 0x0⟩,
  ⟨0xA0100, 6, 0x8, 0x0, 0x0, 0x0, false, 0x0⟩]

/-- The HL sub-window. -/
def hlRows : List RegRow := [
  ⟨0xB0000, 1, 0x8, 0x0, 0x1F00000000, 0xF, false, 0x0⟩,
  ⟨0xB0008, 1, 0x8, 0x8000000010040008, 0x8000FFFFFFFFFFFF, 0x0, false, 0x0⟩,
  ⟨0xB0010, 1, 0x8, 0x0, 0x0, 0x0, false, 0x0⟩,
  ⟨0xB0018, 1, 0x8, 0x0, 0x0, 0x8000000000000000, true, 0x0⟩,
  ⟨0xB0020, 1, 0x8, 0x0, 0x0, 0x0, false, 0x0⟩,
  ⟨0xB0028, 1, 0x8, 0x0, 0x0, 0x8000000000000000, true, 0x0⟩,
  ⟨0xB0040, 6, 0x8, 0x0, 0x0, 0x0, false, 0x0⟩,
  ⟨0xB0080, 6, 0x8, 0x0, 0x0, 0x0, false, 0x0⟩,
  ⟨0xB00C0, 6, 0x8, 0x0, 0x0, 0x0, false, 0x0⟩,
  ⟨0xB0100, 6, 0x8, 0x0, 0x0, 0x0, false, 0x0⟩,
  ⟨0xB1000, 68, 0x8, 0x0, 0x0, 0x8000000000000000, true, 0x0⟩,
  ⟨0xB1400, 260, 0x8, 0x0, 0x0, 0x8000000000000000, true, 0x0⟩,
  ⟨0xB2000, 9, 0x8, 0x0, 0x0, 0x8000000000000000, true, 0x0⟩]

/-- The DB sub-window. -/
def dbRows : List RegRow := [
  ⟨0xC0000, 1, 0x8, 0x0, 0x1, 0x0, false, 0x0⟩,
  ⟨0xC0008, 1, 0x8, 0x0, 0x0, 0x0, false, 0x0⟩,
  ⟨0xC0010, 1, 0x8, 0x0, 0xFFFFFFFFFFFFFFFF, 0x0, false, 0x0⟩,
  ⟨0xC0020, 4, 0x8, 0x0, 0x80FFFFFFFFFFFFFC, 0x0, false, 0x0⟩,
  ⟨0xC0100, 32, 0x8, 0x0, 0x0, 0x0, false, 0x0⟩]

/-- The map of the sub-window an offset lies in (R46). -/
def rowsOf (o : Nat) : List RegRow :=
  match o / 0x10000 with
  | 0 => hnRows
  | 1 => mxRows
  | 2 => tfRows
  | 3 => vxRows
  | 4 => ydRows
  | 5 => wbRows
  | 6 => rlRows
  | 7 => scRows
  | 8 => spRows
  | 9 => cmRows
  | 10 => pwRows
  | 11 => hlRows
  | 12 => dbRows
  | _ => []

/-- A row covers an offset. -/
def RegRow.covers (r : RegRow) (o : Nat) : Bool :=
  decide (r.base ≤ o) && decide ((o - r.base) % r.stride = 0) && decide ((o - r.base) / r.stride < r.n)

/-- The row of the register at a window offset; none where no register is named there (R9). -/
def regRow (o : Nat) : Option RegRow := (rowsOf o).find? (fun r => r.covers o)

/-- The Reset value of MX_CARMAP[q]: PHYS[8q + p] = 8q + p in byte p (R140). -/
def carmapReset (q : Nat) : Word := BitVec.ofNat 64 (ofBytes ((List.range 8).map (fun p => BitVec.ofNat 8 (8 * q + p))))

/-- The Reset value of the register at a window offset (R10). -/
def resetOf (o : Nat) : Word :=
  if MX_CARMAP 0 ≤ o ∧ o < MX_CARMAP 8 then carmapReset ((o - MX_CARMAP 0) / 8)
  else
    match regRow o with
    | some r => r.reset
    | none => 0

/-- The bits of the register at a window offset that a harness sets; zero for a register that is none of the harness's (R414). -/
def harnessMask (o : Nat) : Word :=
  match regRow o with
  | some r => r.harn
  | none => 0

end Sys2Proof.Machine
end

