-- ==== Sys2Proof/Machine/State.lean ====
section
/-! DEFINITION. The state of the block, as plain data, and the state right after reset.
Registers of the MMIO window are one table, `regs`, keyed by window offset, in which an unlisted register holds its Reset value
(R10); so every register of R99, R140, R201, R227, R257, R295, R318, R367, R392, R423, R452 to R454 is state under its own
number. Everything the manual names beside the registers has a field here. INVENTORY.md lists all of it. -/

namespace Sys2Proof.Machine

/-- Whether the block runs or is in one of the two resets that hold its boundary (R436, R437, R442). -/
inductive Phase where
  | run | powerOn | block
deriving DecidableEq, Repr

/-- Straps as sampled (R44) or tied (R442), and the lock indications of the relay ports (R312). -/
structure Pins where
  pkg   : BitVec 6
  blk   : BitVec 4
  clamp : BitVec 4
  lock  : BitVec 9
deriving DecidableEq, Repr

/-! ## What leaves the block -/

/-- Credit classes of the fabric port (R297). -/
inductive FabClass where
  | sch | uns | ctl | mail
deriving DecidableEq, Repr

/-- The answer to a request that arrived through the fabric (R298). -/
inductive Resp where
  | data (bytes : List Byte)
  | tagged (ok : Bool) (v : Word)
  | done
  | error
deriving DecidableEq, Repr

/-- What the block sends on its fabric port and its relay lanes, in order (R1). -/
inductive OutMsg where
  | fabRead (c : FabClass) (addr n : Nat)
  | fabWrite (c : FabClass) (addr : Nat) (bytes : List Byte)
  | tagOp (addr : Nat) (op : FabOp)
  | resp (q : FabReq) (r : Resp)
  | relay (lane : Nat) (frame : BitVec 2208)
  | relayLost (lane : Nat)
  | credits
  | atsRequest (ch : Nat) (pasid va : Nat)
  | atsInvalidated (pasid va len : Nat)
deriving DecidableEq, Repr

/-! ## The Yard and waiting -/

/-- An object of the waiting room (R244, R253). -/
inductive Obj where
  | word (off : Nat) | ctr (i : Nat) | mbox (n : Nat)
deriving DecidableEq, Repr

/-- A waiting-room entry (R253): its number, its object, four wired slots (id, VALUE), the polling waiters, the last change, the
allocation. -/
structure Entry where
  no      : Nat
  obj     : Obj
  slots   : List (Option (Nat × Nat))
  polls   : List Nat
  last    : Nat
  lastOp  : Nat
  lastTs  : Nat
  allocTs : Nat
deriving DecidableEq, Repr

/-- A request in a bank's tailboard queue (R33, R231): the core's waiting instruction, the fill of a done action, or a
fabric-arriving request. -/
inductive TailReq where
  | core
  | fill (ch : Nat) (off : Nat)
  | fab (q : FabReq)
deriving DecidableEq, Repr

/-- The Yard (R228), its tags (R235), the words with an uncorrectable and with a single-bit error (R236), its sync counters (R242),
mailboxes (R255) and waiting room (R244); the requests that wait for a bank's tailboard port, and the banks whose port has served one,
with the ACLK of YD_TIME (R33, R39). -/
structure Yard where
  mem      : Mem
  full     : List Nat
  bad      : List Nat
  weak     : List Nat
  ctrs     : List (Nat × BitVec 32)
  mbox     : List (Nat × Word)
  mboxFull : List Nat
  room     : List Entry
  wakes    : List Nat
  ungating : List Nat
  tail     : List (Nat × TailReq)
  served   : List (Nat × Nat)
deriving DecidableEq, Repr

/-! ## The tensor unit -/

/-- A pending sum (R108, R144): NaN, an infinity, or z · 2^e. -/
inductive PVal where
  | nan | inf (neg : Bool) | fin (z : Int) (e : Int)
deriving DecidableEq, Repr

/-- A TMMA or TMMV whose commit is outstanding (R109): its pending sums by accumulator and cell; an unlisted cell has zero. -/
structure MxOp where
  w       : Insn
  pc      : Word
  due     : Nat
  slot    : Option SlotAt
  sums    : List (Nat × List (Nat × PVal))
  int     : Bool
  clear   : Bool
  slice   : Bool
  flushed : Bool
deriving DecidableEq, Repr

/-- A vector instruction whose commit is outstanding (R214): the register bytes it writes, of a mask the bits it writes with their
values, and the flags it sets. -/
structure VxOp where
  w     : Insn
  pc    : Word
  due   : Nat
  slot  : Option SlotAt
  wr    : List (Nat × Byte)
  mask  : Option (Nat × BitVec 1024 × BitVec 1024)
  flags : FFlags
deriving DecidableEq, Repr

/-- What a row's drain gives (R130, R131): its bytes, its statistics, saturation, flush, and the column of its first NaN. -/
structure DrainRow where
  bytes : List Byte
  mx    : Nat
  sum   : Nat
  sat   : Bool
  flush : Bool
  nan   : Option Nat
deriving DecidableEq, Repr

/-- What a slot does to a word, a tag or a counter in the cycle after its issue (R71 to R74, R76, R243, R280): a word is taken (1),
peeked (2) or put (3) to another; a tag is set; a counter is changed; a mail tag is published; a word is expected full; a descriptor
is read. -/
inductive WordOp where
  | pair (op src dst : Nat) | tag (off : Nat) (full : Bool) | ctr (inc : Bool) (i v : Nat) | publish (k off : Nat)
  | expect (off : Nat) | stage (ch off : Nat)
deriving DecidableEq, Repr

/-- A later part of an operation (R114, R185, R186, R196, R214, R219): a cell cycle's operands or a beat is read; a row group
of a drain is read or written; the rows of a wave are written to a tile or read from one; a stretch of the Yard is read, or
written from what is held under its key; a source chunk is read; the index of a gather or scatter, the source of a store and the
masks are read; a slot's word is reached; a word is put full; a tile instruction takes effect. -/
inductive Micro where
  | cell (c : Nat) | beat (b : Nat) | groupRead (g : Nat) | groupWrite (g : Nat) | waveWrite (v : Nat) | waveRead (v : Nat)
  | load (key off n : Nat) | store (key off : Nat) | chunk (c : Nat) | index | word (k : WordOp) | put (off : Nat) (v : Word) | effect
deriving DecidableEq, Repr

/-- An operation in progress, of a slot or of a core-mode instruction of the matrix array: slot (none in core mode), pc, station,
instruction with its operands, when it was accepted, its commit cycle, what it sampled at acceptance (rows and width of its tile, rows
of its second tile, conversion pair or scale, VL, first row), its parts still to come with the cycle of each in ACLK of YD_TIME (of a
write to the tensor unit's state, the cycle from which it is seen), what it has read, the drained rows it holds, the masks as read,
and whether it has reported a NaN. -/
structure Job where
  at_  : Option SlotAt
  pc   : Word
  st   : Nat
  w    : Insn
  addr : Word
  aux  : Word
  t    : Nat
  due  : Nat
  h    : Nat
  wd   : Nat
  h2   : Nat
  conv : Word
  vl   : Nat
  row  : Nat
  todo : List (Nat × Micro)
  buf  : List (Nat × List Byte)
  rows : List (Nat × DrainRow)
  mask : List (BitVec 1024)
  nan  : Bool
deriving DecidableEq, Repr

/-- A slice of the operand cache: tile, byte offset, width (R175). -/
structure SliceId where
  tile  : Nat
  off   : Nat
  width : Nat
deriving DecidableEq, Repr

/-- Tiles (R170), accumulators (R103), vector registers (R202), masks (R204), the cells' LFSRs as the seed in force and the
draws each cell has taken since (R112, R153), instructions in flight, the slots' operations in progress, the cache slices held, and
until when each station is occupied (R76, R115, R214), in ACLK of YD_TIME. -/
structure Tensor where
  tiles  : Mem
  accs   : List (Nat × BitVec 32)
  vregs  : Mem
  masks  : Vector (BitVec 1024) 8
  seed   : Word
  draws  : Nat
  mx     : List MxOp
  vx     : List VxOp
  jobs   : List Job
  sliceA : Option SliceId
  sliceB : Option SliceId
  mxBusy : Nat
  tfBusy : Nat
  vxBusy : Nat
deriving DecidableEq, Repr

/-! ## Timetable, Guard, mail, relay -/

/-- One sequencer lane (R63 to R66): where its slot words lie, how many there are, the next one, the cycle of the last
issue, whether END has issued, and the slot words fetched but not yet issued. -/
structure Lane where
  base  : Nat
  count : Nat
  next  : Nat
  last  : Nat
  ended : Bool
  buf   : List (Nat × BitVec 128)
deriving DecidableEq, Repr

/-- An image as its header and its map give it: its offset, IMAGE_ID, declared energy, slots of each lane, and the relay entries
of its map (bank, first and last cycle) and those of scheduled channels (channel, bank, first and last cycle) (R60, R69, R75, R309,
R458). -/
structure Image where
  off      : Nat
  id       : Nat
  energy   : Nat
  nslot    : List Nat
  relayMap : List (Nat × Nat × Nat)
  wbMap    : List (Nat × Nat × Nat × Nat)
deriving DecidableEq, Repr

/-- The sequencer with the running image; the open INSPECT windows (first cycle, last cycle, UNITS); bank cycles and one-cycle
stations that slots have taken; the Guard's per-leg record (R95, R97); what forces substitutes (R86, R97); whether a halt is due
(R92); the first run-out leg (R91). -/
structure Seq where
  lanes     : Vector Lane 4
  image     : Option Image
  windows   : List (Nat × Nat × Nat)
  occupied  : List (Nat × Nat)
  seen      : List Nat
  substFrom : Option Nat
  allSubst  : Bool
  thermal   : Bool
  halt      : Bool
  runFirst  : Nat
deriving DecidableEq, Repr

/-- A mail draw in progress (R88): slot, whether from the substitute, its deadline, buffer, lines, lines read, DROP. -/
structure Draw where
  k     : Nat
  sub   : Bool
  dl    : Nat
  off   : Nat
  len   : Nat
  next  : Nat
  drop  : Bool
  leg   : Nat
deriving DecidableEq, Repr

/-- Mail on its way out (R314 to R316): draws, the line queue, the record queue, MAIL credits held. -/
structure Mail where
  draws : List Draw
  lines : List (Nat × List Byte)
  recs  : List (Nat × Word)
  held  : Nat
deriving DecidableEq, Repr

/-- A frame in a landing buffer (R310): lane, YD_TIME of its arrival, destination, landing cycle, skew, payload, the next line to land,
and whether a line was lost (R456). -/
structure LFrame where
  lane    : Nat
  at_     : Nat
  dst     : Nat
  land    : Nat
  skew    : Int
  payload : List Byte
  next    : Nat
  lost    : Bool
deriving DecidableEq, Repr

/-- A frame on its way out (R308): lane, YD_TIME of its SEND, its bits until transmission begins, and whether it is being
transmitted. -/
structure TxFrame where
  lane  : Nat
  at_   : Nat
  frame : Option (BitVec 2208)
  sending : Bool
deriving DecidableEq, Repr

/-- The relay port: frames that wait to land, and frames on their way out. -/
structure Relay where
  landing : List LFrame
  tx      : List TxFrame
deriving DecidableEq, Repr

/-! ## The Waybill engine -/

/-- A burst in progress (R264, R266): its stream position, source and destination address, length and pairs; the bytes whose read has
been issued, the reads that await their response (stream position, length), the data as far as it has arrived, the bytes whose write
has been issued, the writes that await theirs; and whether it is still to move (R292). -/
structure Burst where
  pos   : Nat
  src   : Nat
  dst   : Nat
  len   : Nat
  sp    : Nat
  dp    : Nat
  asked : Nat
  reads : List (Nat × Nat)
  data  : List Byte
  put   : Nat
  writes : List (Nat × Nat)
  live  : Bool
deriving DecidableEq, Repr

/-- A descriptor held by a channel (R260, R261) with its pieces (address, length, pair index; R263) and the progress of its
transfer: the stream position after its last burst, its bursts in progress, the stretches confirmed, how it ended (code,
detail, pair, address). `hv`: host-virtual ranges of its sides; `waits`: invalidations that await its end (R291); `atsSrc`,
`atsDst`: bytes of a host-virtual side translated so far (R289). Of a scheduled one: when, in which lane and slot it was fired,
or from when it is staged; the first line lost and the first one stopped; lines read but not yet written (R281). -/
structure Desc where
  ctrl    : Word
  src     : Word
  dst     : Word
  len     : Nat
  lists   : Word
  done    : Word
  gate    : Word
  stat    : Word
  srcP    : List (Nat × Nat × Nat)
  dstP    : List (Nat × Nat × Nat)
  hv      : List (Nat × Nat)
  waits   : List (Nat × Nat × Nat)
  atsSrc  : Option Nat
  atsDst  : Option Nat
  gated   : Bool
  next    : Nat
  bursts  : List Burst
  written : List (Nat × Nat)
  half    : Bool
  ended   : Option (Nat × Nat × Nat × Nat)
  firedAt : Nat
  lane    : Nat
  slot    : Nat
  lost    : Option Nat
  stop    : Option Nat
  buf     : List (Nat × List Byte)
deriving DecidableEq, Repr

/-- One channel (R260). -/
structure Chan where
  active   : Option Desc
  shadow   : Option Desc
  aborting : Bool
deriving DecidableEq, Repr

/-- The engine: 56 channels, the unscheduled channel that the read engine and the write engine served at their last beat (R267), the
invalidations whose completion is deferred (R291), until when each scheduled channel's station is occupied, and the channels of
requests that await a response beside a transfer: done fills in another Yard (R273), and what a transfer that has left its set had
out still. -/
structure Wayb where
  ch       : Vector Chan 56
  reader   : Option Nat
  writer   : Option Nat
  invals   : List (Nat × Nat × Nat)
  busy     : List (Nat × Nat)
  strays   : List Nat
deriving DecidableEq, Repr

/-! ## The scalar core -/

/-- What the core does (R438, R344, R244, R455). -/
inductive CoreRun where
  | held | run | wait | waiti | halted | resetting
deriving DecidableEq, Repr

/-- Memory classes (R371). -/
inductive MemClass where
  | dram | yard | mmio | host | remote
deriving DecidableEq, Repr

/-- What a blocking instruction of the core waits for (R244, R241, R255). -/
inductive WaitFor where
  | local (o : Obj) | remote (addr : Nat) | queued (off : Nat)
deriving DecidableEq, Repr

/-- The core's waiting instruction: its word, its object, whether it waits in a berth, whether it polls (R248, R250). -/
structure Wait where
  w       : Insn
  target  : WaitFor
  berth   : Bool
  polling : Bool
deriving DecidableEq, Repr

/-- A store-buffer entry (R328): its line, its class, the bytes it holds by offset in the line. -/
structure SbEntry where
  line  : Nat
  cls   : MemClass
  bytes : List (Nat × Byte)
deriving DecidableEq, Repr

/-- What the error code of an L2 line finds (R332): nothing, an error it corrects, one it does not. -/
inductive CellErr where
  | ok | soft | hard
deriving DecidableEq, Repr

/-- An L2 line (R330, R332). -/
structure L2Line where
  set   : Nat
  way   : Nat
  tag   : Nat
  dirty : Bool
  data  : Line
  err   : CellErr
deriving DecidableEq, Repr

/-- The core: general registers, pc, run state, waiting instruction, frame saves in progress (R363), store buffer, caches
(an L1 line is its number, its way and its data, most recent first, R327), the victim LFSR (R331), the entry stores of S and M
(R341), the address at which breakpoints do not halt until its instruction has retired (R455), the instructions that wait behind
tensor instructions of the core (R115, R322) and whether the first of them goes ahead now, who waits for a core-only reset (the SEQ of a RESET, or none), and the cause that entered the
double-fault frame (R360, for SC_RSTINFO.FIRST). -/
structure Core where
  g        : Vector Word 32
  pc       : Word
  run      : CoreRun
  wait     : Option Wait
  saves    : List (Nat × List Word)
  sb       : List SbEntry
  l1d      : List (Nat × Nat × Line)
  l1i      : List (Nat × Nat × Line)
  l2       : List L2Line
  lfsr     : BitVec 16
  entryS   : List (Word × Line)
  entryM   : List (Word × Line)
  passBp   : Option Word
  younger  : List (Instr × Insn)
  going    : Bool
  resetSeq : Option (BitVec 16)
  dfCause  : Byte
deriving DecidableEq, Repr

/-! ## The Coachman, the Ostler, power -/

/-- A receipt (R399) that waits to be posted. -/
structure Receipt where
  op     : BitVec 16
  seq    : BitVec 16
  status : Byte
  final  : Bool
  unsol  : Bool
  detail : Word
  d16    : Word
  d24    : Word
deriving DecidableEq, Repr

/-- An admitted image (R79): the image, the Yard ranges it and its map lie in (offset, length), the harness it was admitted
against in the settings that the checks read, and whether it is void. -/
structure Admission where
  img     : Image
  spans   : List (Nat × Nat)
  setting : List (Nat × Word)
  void    : Bool
deriving DecidableEq, Repr

/-- A HARNESS_COMMIT or RESET type 2 (R416, R439): its SEQ, which of the two, its harness once it is pending, and the leg it
was applied in. -/
structure Commit where
  seq     : BitVec 16
  soft    : Bool
  pending : Option (List (Nat × Word))
  applied : Option (BitVec 48)
deriving DecidableEq, Repr

/-- A deferred or running SELF_TEST (R411): SEQ, unit, legs left before TIMEOUT (none: no limit), whether it waits. -/
structure TestJob where
  seq   : BitVec 16
  unit  : UnitId
  legs  : Option Nat
  waits : Bool
deriving DecidableEq, Repr

/-- The Coachman: offer (R404), staging (R415), background commands (R408: of TT_ADMIT its SEQ, OFFSET and WHICH, of SYNC_DUMP its
SEQ, DST and what was collected, of STOP its SEQ), admission, receipts waiting, receipts discarded
since the last RECEIPTS_LOST, whether a notify write is owed (R396), the firmware in its private memory (R405), the rings in use (booking base and
log2, receipt base and log2; R393), whether it takes no packet or posts nothing until EN is set again (R394, R395), and the ring index
of a packet whose read fails (R394). -/
structure Coach where
  offer    : Option (BitVec 128)
  staged   : List (Nat × Word)
  admitting : Option (BitVec 16 × Nat × Bool)
  commit   : Option Commit
  adm      : Option Admission
  test     : Option TestJob
  dump     : Option (BitVec 16 × Nat × List Byte)
  stop     : Option (BitVec 16)
  receipts : List Receipt
  lost     : Nat
  notify   : Bool
  image    : List Byte
  rings    : Nat × Nat × Nat × Nat
  noTake   : Bool
  noPost   : Bool
  badRead  : Option Nat
deriving DecidableEq, Repr

/-- The Ostler: dead active units that await a changeover, groups whose rescue has ended, dead groups that do not answer
reads and so are not rescued, units that have struck in this leg, and the relay lanes that changed ports at its cycle 0 (R448, R449,
R251, R313). -/
structure Ostler where
  todo    : List UnitId
  rescued : List Nat
  mute    : List Nat
  struck  : List UnitId
  moved   : List Nat
deriving DecidableEq, Repr

/-- Energy of the leg so far, legs that have ended and await PW_ENERGY (leg, µJ, declared), the last 16 excesses, windows
over the cap in a row, whether TELEMETRY_LOST has been raised since the last sample (R429 to R432). -/
structure Power where
  uj    : Nat
  ended : List (Nat × Nat × Nat)
  hist  : List Nat
  runs  : Nat
  quiet : Bool
deriving DecidableEq, Repr

/-! ## The whole -/

/-- What happened to registers in one ACLK (R12, R13): the ACLK in YD_TIME; the bits hardware gave a value, which a write of that
ACLK does not change; the events counted by each SAT counter; the W1S bits that software asked for again while they were set. -/
structure Latch where
  at_   : Nat
  held  : List (Nat × Word)
  count : List (Nat × Nat)
  asked : List (Nat × Word)
deriving DecidableEq, Repr

/-- The block. `time` is YD_TIME, `cycle` HN_CYCLE, `leg` HN_LEG. `opening`: a leg has been opened and its cycle-0 step
(LEG_START) is due. `out` is everything sent. `agenda`: commands of the block's own sequencers that fall due later, by
YD_TIME (log 2). `hw` is what hardware and software did to registers in the present ACLK (log 46). `fresh` is the counter the free values are drawn with (log 7). `pending` is the queue of commands. -/
structure State where
  phase   : Phase
  time    : Word
  cycle   : Nat
  leg     : BitVec 48
  legOpen : Bool
  opening : Bool
  pins    : Pins
  regs    : List (Nat × Word)
  hw      : Latch
  yard    : Yard
  tensor  : Tensor
  seq     : Seq
  mail    : Mail
  relay   : Relay
  wb      : Wayb
  core    : Core
  coach   : Coach
  ostler  : Ostler
  power   : Power
  out     : List OutMsg
  agenda  : List (Nat × Instr)
  fresh   : Nat
  pending : List Instr
deriving DecidableEq, Repr

/-- Why the machine stops with a fault. -/
inductive Fault where
  /-- The supplies have left their specification (R433: nothing about the block is bound from then on). No command of the
  table reports it, so no command raises it; the block has no supply monitor. Safe. -/
  | supplyLost
deriving DecidableEq, Repr

/-- Why a command has no meaning. -/
inductive Refusal where
  /-- The command is not modelled yet; raised by Dispatch alone, for a row that has no meaning. Safe. -/
  | notModelled (mnemonic : String)
deriving DecidableEq, Repr

/-! ## Reset -/

/-- R440: zero, empty. -/
def Yard.reset : Yard := ⟨[], [], [], [], [], [], [], [], [], [], [], []⟩

/-- R440: zero, clear. LFSR seed DESIGN CHOICE, log 5. -/
def Tensor.reset : Tensor := ⟨[], [], [], Vector.replicate 8 0, 0, 0, [], [], [], none, none, 0, 0, 0⟩

def Lane.idle : Lane := ⟨0, 0, 0, 0, true, []⟩

/-- R440: IDLE, nothing admitted. -/
def Seq.reset : Seq := ⟨Vector.replicate 4 Lane.idle, none, [], [], [], none, false, false, false, 0⟩

def Chan.empty : Chan := ⟨none, none, false⟩
def Wayb.reset : Wayb := ⟨Vector.replicate 56 Chan.empty, none, none, [], [], []⟩

/-- R440: reset, core held; R331: the LFSR is 0x0001; R438: caches invalid. General registers, pc and entry stores
DESIGN CHOICE, log 5. -/
def Core.reset : Core := ⟨Vector.replicate 32 0, 0, .held, none, [], [], [], [], [], 1, [], [], none, [], false, none, 0⟩

/-- R440: BOOT, none, none, disabled. -/
def Coach.reset : Coach := ⟨none, [], none, none, none, none, none, none, [], 0, false, [], (0, 4, 0, 5), false, false, none⟩

/-- The block right after a power-on reset, before READY is set (R436): every register at its Reset value (no entry in the
table), the Yard zero with every tag empty, the clamps held. Straps DESIGN CHOICE, log 5. -/
def State.reset : State where
  phase   := .powerOn
  time    := 0
  cycle   := 0
  leg     := 0
  legOpen := false
  opening := false
  pins    := ⟨0, 0, 0, 0⟩
  regs    := []
  hw      := ⟨0, [], [], []⟩
  yard    := Yard.reset
  tensor  := Tensor.reset
  seq     := Seq.reset
  mail    := ⟨[], [], [], 0⟩
  relay   := ⟨[], []⟩
  wb      := Wayb.reset
  core    := Core.reset
  coach   := Coach.reset
  ostler  := ⟨[], [], [], [], []⟩
  power   := ⟨0, [], [], 0, false⟩
  out     := []
  agenda  := []
  fresh   := 0
  pending := []

end Sys2Proof.Machine
end

