-- ==== Sys2Proof/Machine/Flags.lean ====
section
/-! DEFINITION. Registers as stored, their fields, SAT counters with their companion flags (R13), sticky flags, and free values.
R8, R10 to R13; the counters' flags are those of the maps R99, R140, R201, R227, R257, R295, R318, R392, R423, R444, R452. -/

namespace Sys2Proof.Machine

/-- The register at a window offset as the table holds it. -/
def State.rd (s : State) (o : Nat) : Word := look resetOf o s.regs

/-- The state with the register at a window offset replaced. -/
def State.wr (s : State) (o : Nat) (v : Word) : State := { s with regs := put resetOf o v s.regs }

/-- Field [hi:lo] of a register. -/
def State.f (s : State) (o hi lo : Nat) : Nat := fld (s.rd o) hi lo

/-- Bit i of a register. -/
def State.b (s : State) (o i : Nat) : Bool := bit (s.rd o) i

/-- A register with field [hi:lo] replaced. -/
def State.setF (s : State) (o hi lo v : Nat) : State := s.wr o (setFld (s.rd o) hi lo v)

/-! ## Hardware and software in one ACLK (R12, R13) -/

/-- The record of the present ACLK; what an earlier ACLK recorded has no force (log 46). -/
def State.latch (s : State) : Latch := if s.hw.at_ = s.time.toNat then s.hw else ⟨s.time.toNat, [], [], []⟩

/-- The W1C bits of a register (R11). -/
def w1cOf (o : Nat) : Word := match regRow o with | some r => r.w1c | none => 0

/-- The record with bits of a register added that a write of this ACLK does not change. -/
def State.holding (s : State) (o : Nat) (m : Word) : Latch :=
  let l := s.latch
  { l with held := put (fun _ => 0) o (look (fun _ => 0) o l.held ||| m) l.held }

/-- Hardware has set bits of a register: those with access code W1C end set in this ACLK, whatever software writes (R12). -/
def State.sets (s : State) (o : Nat) (m : Word) : Latch := if m &&& w1cOf o = 0 then s.hw else s.holding o (m &&& w1cOf o)

/-- Hardware gives a register a value that stays against a write of the same ACLK (R180, R195). -/
def State.wins (s : State) (o : Nat) (m : Word) : State := { s with hw := s.holding o m }

/-- The bits of a register that a write in this ACLK does not change. -/
def State.held (s : State) (o : Nat) : Word := look (fun _ => 0) o s.latch.held

/-- The events that a SAT counter has counted in this ACLK (R13). -/
def State.counted (s : State) (o : Nat) : Nat := look (fun _ => 0) o s.latch.count

/-- Software asks in this ACLK for bits of access code W1S that are set already (R12). -/
def State.ask (s : State) (o : Nat) (m : Word) : State :=
  let l := s.latch
  { s with hw := { l with asked := put (fun _ => 0) o (look (fun _ => 0) o l.asked ||| m) l.asked } }

/-- A W1S bit was asked for again in this ACLK: its completion leaves it set, and the action is requested again (R12). -/
def State.askedAgain (s : State) (o i : Nat) : Bool := bit (look (fun _ => 0) o s.latch.asked : Word) i

/-- A register with bit i replaced; a sticky bit that is set is hardware's (R12). -/
def State.setB (s : State) (o i : Nat) (v : Bool) : State :=
  { s with regs := put resetOf o (setBit (s.rd o) i v) s.regs, hw := if v then s.sets o (maskOf i i) else s.hw }

/-- A W1S bit is asked for (R11, R12). -/
def State.request (s : State) (o i : Nat) : State := if s.b o i then s.ask o (maskOf i i) else s.setB o i true

/-- A W1S bit clears as what it asked for is done, unless it was asked for again in this ACLK (R12). -/
def State.fulfil (s : State) (o i : Nat) : State := s.setB o i (s.askedAgain o i)

/-- A register with the bits of a mask set (sticky flags, R11, R12). -/
def State.orBits (s : State) (o : Nat) (m : Word) : State :=
  { s with regs := put resetOf o (s.rd o ||| m) s.regs, hw := s.sets o m }

/-- Hardware writes a whole register; the sticky bits in it are set (R12). -/
def State.wrSet (s : State) (o : Nat) (v : Word) : State := { s with regs := put resetOf o v s.regs, hw := s.sets o v }

/-- The register and bit of a SAT counter's companion flag (R13). -/
def satFlag (o : Nat) : Nat × Nat :=
  if o = HN_HORN_EARLYCNT then (HN_CNT_SATFLAGS, 0)
  else if o = HN_HORN_LOCALCNT then (HN_CNT_SATFLAGS, 1)
  else if o = HN_YS_MISS then (HN_CNT_SATFLAGS, 2)
  else if HN_GUARD_CNT 1 ≤ o ∧ o ≤ HN_GUARD_CNT 7 then (HN_CNT_SATFLAGS, 8 + (o - HN_GUARD_CNT 0) / 8)
  else if o = MX_CNT_DONE then (MX_FLAGS, 6)
  else if o = MX_CNT_ABANDON then (MX_FLAGS, 7)
  else if o = TF_CNT_ROWS then (TF_FLAGS, 6)
  else if o = TF_CNT_REUSE then (TF_FLAGS, 7)
  else if o = VX_CNT_DONE then (VX_FLAGS, 8)
  else if o = VX_CNT_ABANDON then (VX_FLAGS, 9)
  else if o = VX_CNT_BANKWAIT then (VX_FLAGS, 10)
  else if o = YD_WR_FULLCNT then (YD_CNT_SATFLAGS, 0)
  else if o = YD_NWFAIL_CNT then (YD_CNT_SATFLAGS, 1)
  else if o = YD_MISUSE_CNT then (YD_CNT_SATFLAGS, 2)
  else if o = YD_REMOTE_POLL then (YD_CNT_SATFLAGS, 3)
  else if o = YD_ECC_CE then (YD_CNT_SATFLAGS, 4)
  else if o = WB_CNT_BYTES then (WB_CNT_SATFLAGS, 0)
  else if o = WB_CNT_PREEMPT then (WB_CNT_SATFLAGS, 1)
  else if o = WB_CNT_ATS then (WB_CNT_SATFLAGS, 2)
  else if o = WB_CNT_LATE then (WB_CNT_SATFLAGS, 3)
  else if RL_CNT_RX 0 ≤ o ∧ o ≤ RL_CNT_RX 7 then (RL_CNT_SATFLAGS, (o - RL_CNT_RX 0) / 8)
  else if RL_CNT_CRC 0 ≤ o ∧ o ≤ RL_CNT_CRC 7 then (RL_CNT_SATFLAGS, 8 + (o - RL_CNT_CRC 0) / 8)
  else if RL_CNT_REFUSED 0 ≤ o ∧ o ≤ RL_CNT_REFUSED 7 then (RL_CNT_SATFLAGS, 16 + (o - RL_CNT_REFUSED 0) / 8)
  else if o = RL_CNT_FABTO then (RL_CNT_SATFLAGS, 24)
  else if o = RL_CNT_LATERSP then (RL_CNT_SATFLAGS, 25)
  else if o = RL_CNT_MAILDROP then (RL_CNT_SATFLAGS, 26)
  else if o = SP_CNT_WALK then (SP_CNT_SATFLAGS, 0)
  else if o = SP_CNT_WALKFAULT then (SP_CNT_SATFLAGS, 1)
  else if o = CM_CNT_PACKETS then (CM_CNT_SATFLAGS, 0)
  else if o = CM_CNT_RDROP then (CM_CNT_SATFLAGS, 1)
  else (o, 63)

/-- All ones of a SAT count (R13: 48 bits). -/
def satMax : Nat := 2 ^ 48 - 1

/-- The record with n events added to what a counter has counted in this ACLK. -/
def State.counting (s : State) (o n : Nat) : Latch :=
  let l := s.latch
  { l with count := put (fun _ => 0) o (look (fun _ => 0) o l.count + n) l.count }

/-- The SAT counter at an offset counts n events: it holds at all ones, and reaching that sets its companion flag (R11, R13). -/
def State.count (s : State) (o n : Nat) : State :=
  let c := s.f o 47 0
  let s' := ({ s with hw := s.counting o n } : State).setF o 47 0 (min (c + n) satMax)
  if c < satMax ∧ satMax ≤ c + n then
    let (g, i) := satFlag o
    s'.setB g i true
  else s'

/-- The next free value (log 7). -/
def State.free (s : State) : Word × State := (Config.freeWord s.fresh, { s with fresh := s.fresh + 1 })

/-- The next free choice (log 7). -/
def State.flip (s : State) : Bool × State := (Config.freeBit s.fresh, { s with fresh := s.fresh + 1 })

end Sys2Proof.Machine
end

