-- ==== Sys2Proof/Machine/Ops.lean ====
section
/-! DEFINITION. The named operations that every family shares: what the block sends, events that fall due later, receipts,
the Guard's record, the Ostler's declarations, and the Yard with its tags, counters, mailboxes and waiting room.
Sections: R40, R94 to R97, R228 to R255, R397, R399, R413, R425, R432, R445 to R451. -/

namespace Sys2Proof.Machine

/-! ## Output and agenda -/

/-- The block sends a message (R1, R2). -/
def State.send (s : State) (m : OutMsg) : State := { s with out := s.out ++ [m] }

/-- Yard-only transfers that end in one ACLK do so in ascending channel order (R243). -/
def endsFirst : Instr → Instr → Bool
  | .wbYardOnlyComplete c, .wbYardOnlyComplete d => decide (c < d)
  | _, _ => false

/-- An event in order of its time. -/
def insertDue (t : Nat) (i : Instr) : List (Nat × Instr) → List (Nat × Instr)
  | [] => [(t, i)]
  | (u, j) :: r => if t < u || (decide (t = u) && endsFirst i j) then (t, i) :: (u, j) :: r else (u, j) :: insertDue t i r

/-- An event of the block's own that falls due d ACLK from now (log 2). -/
def State.later (s : State) (d : Nat) (i : Instr) : State :=
  { s with agenda := insertDue (s.time.toNat + d) i s.agenda }

/-- An event that has come about is no longer due. -/
def State.claim (s : State) (i : Instr) : State := { s with agenda := s.agenda.eraseP (fun p => decide (p.2 = i)) }

/-- A commit that no longer comes is taken off. -/
def State.undue (s : State) (i : Instr) (due : List Nat) : State :=
  { s with agenda := due.foldl (fun l d => l.erase (d, i)) s.agenda }

/-- What happens only while the block runs: in a power-on or block reset it takes no request and moves nothing (R436, R437). -/
def State.up (s : State) (f : State → State) : State := if s.phase = .run then f s else s

/-! ## Receipts -/

/-- An unsolicited receipt (R413): it waits in a queue of 32, or is discarded and counted (R397). -/
def State.unsolicited (s : State) (op : BitVec 16) (detail d16 d24 : Word) : State :=
  if 32 ≤ (s.coach.receipts.filter (·.unsol)).length then
    let s1 := (s.count CM_CNT_RDROP 1).setB CM_STATUS 2 true
    { s1 with coach := { s1.coach with lost := s1.coach.lost + 1 } }
  else { s with coach := { s.coach with receipts := s.coach.receipts ++ [⟨op, 0, 0, true, true, detail, d16, d24⟩] } }

/-- A receipt that answers a packet (R399). -/
def State.answerTo (s : State) (op seq : BitVec 16) (status : Byte) (final : Bool) (detail d16 d24 : Word) : State :=
  { s with coach := { s.coach with
      receipts := s.coach.receipts ++ [⟨op, seq, status, final, false, detail, d16, d24⟩] } }

/-! ## The Guard -/

/-- HN_TT_STATE.STATE (R99): 0 IDLE, 1 RUNNING, 2 RUNOUT, 3 HALTED, 4 HALT_RUNOUT. -/
def State.tt (s : State) : Nat := s.f HN_TT_STATE 2 0

/-- A policy takes effect at a report (R97): 1 substitutes the mail still to be drawn in the leg, 2 halts a running timetable
at the leg's end and sets SC_IPEND.HALT (R356). -/
def State.policy (s : State) (pol : Nat) : State :=
  if pol = 1 then
    { s with seq := { s.seq with substFrom := some (match s.seq.substFrom with | some c => min c s.cycle | none => s.cycle) } }
  else if pol = 2 ∧ (s.tt = 1 ∨ s.tt = 2) then
    (({ s with seq := { s.seq with halt := true } } : State)).setB SC_IPEND 40 true
  else s

/-- A GUARD_REPORT of the leg and cycle that a report's DETAIL and LAST hold, of a higher kind. -/
def Receipt.higher (det last : Word) (q : Receipt) : Bool :=
  decide (q.op = 0x8001) && decide (fld q.detail 58 32 = fld det 58 32) && decide (fld q.d16 47 0 = fld last 47 0) &&
    decide (fld last 63 48 < fld q.d16 63 48)

/-- Without the last unsolicited receipt. -/
def dropUnsol (l : List Receipt) : List Receipt := (l.reverse.eraseP (·.unsol)).reverse

/-- A GUARD_REPORT whose kind is lower than one reported in the same ACLK already stands before it (R96); one too many is discarded and
counted (R397). -/
def State.reportBefore (s : State) (det last : Word) (pol : Nat) : State :=
  let l := s.coach.receipts
  let l1 := l.takeWhile (fun q => !q.higher det last) ++ [⟨0x8001, 0, 0, true, true, det, last, BitVec.ofNat 64 pol⟩] ++
    l.dropWhile (fun q => !q.higher det last)
  if 32 ≤ (l.filter (·.unsol)).length then
    let s1 := (s.count CM_CNT_RDROP 1).setB CM_STATUS 2 true
    { s1 with coach := { s1.coach with lost := s1.coach.lost + 1, receipts := dropUnsol l1 } }
  else { s with coach := { s.coach with receipts := l1 } }

/-- The event that HN_GUARD_LAST and HN_GUARD_DETAIL hold is of this ACLK and of a higher kind. -/
def State.reportedHigher (s : State) (kind : Nat) : Bool :=
  decide (fld (s.rd HN_GUARD_LAST) 47 0 = s.leg.toNat) && decide (fld (s.rd HN_GUARD_DETAIL) 58 32 = s.cycle % 2 ^ 27) &&
    decide (kind < fld (s.rd HN_GUARD_LAST) 63 48) && s.seq.seen.contains (fld (s.rd HN_GUARD_LAST) 63 48)

/-- The Guard records an event of a kind (R94, R95): the first of a leg is reported, to the core by HN_GUARD_STATUS and to
the host by a GUARD_REPORT, and its policy applies; a further one is counted only. `info` is INFO, bits [31:18] of
HN_GUARD_DETAIL. Kinds of one ACLK are reported in ascending order, whatever the order in which the commands of that ACLK come (R96).
The report names the configured policy, HALT_AT_LEG_END also where STATE lets no halt follow (DESIGN CHOICE, log 51: R413 does not
say). -/
def State.guard (s : State) (kind info slot : Nat) : State :=
  if s.seq.seen.contains kind then s.count (HN_GUARD_CNT kind) 1
  else
    let last : Word := BitVec.ofNat 64 (kind * 2 ^ 48 + s.leg.toNat)
    let det : Word := BitVec.ofNat 64 ((s.cycle % 2 ^ 27) * 2 ^ 32 + (info % 2 ^ 14) * 2 ^ 18 + slot % 2 ^ 18)
    let pol := s.f HN_GUARD_POLICY (2 * kind + 1) (2 * kind)
    let s1 : State := { s with seq := { s.seq with seen := s.seq.seen ++ [kind] } }
    let s2 := s1.setB HN_GUARD_STATUS kind true
    if s1.reportedHigher kind then (s2.reportBefore det last pol).policy pol
    else (((s2.wr HN_GUARD_LAST last).wr HN_GUARD_DETAIL det).unsolicited 0x8001 det last (BitVec.ofNat 64 pol)).policy pol

/-- COLLISION (R94): station, lane and slot; with a cause if an embedded instruction would fault (R68). -/
def State.collision (s : State) (station lane slot : Nat) (cause : Option Nat) : State :=
  s.guard 1 (station + lane * 16 + (match cause with | some c => 64 + c * 128 | none => 0)) slot

/-! ## Units and their health -/

/-- The clock domain of a unit id (R410, R425). -/
def unitDomain (u : UnitId) : Option Nat :=
  let i := fld u 7 0
  match fld u 15 8 with
  | 1 => if i < 68 then some i else none
  | 2 => some (68 + i)
  | 3 => if i < 4 then some (324 + i) else none
  | 4 => if i < 8 then some (328 + i) else none
  | 5 => if i < 4 then some (336 + i) else none
  | 6 => if i < 2 then some (360 + i) else none
  | 7 => if i < 6 then some (343 + i) else none
  | 8 => if i < 9 then some (349 + i) else none
  | _ => none

/-- A bit of an HL unit map, by domain. -/
def State.unitBit (s : State) (map : Nat → Nat) (d : Nat) : Bool := s.b (map (d / 64)) (d % 64)
def State.setUnit (s : State) (map : Nat → Nat) (d : Nat) (v : Bool) : State := s.setB (map (d / 64)) (d % 64) v

/-- The physical carriage that serves a logical one (R139). -/
def State.carriage (s : State) (l : Nat) : Nat := s.f (MX_CARMAP (l / 8)) (8 * (l % 8) + 7) (8 * (l % 8))
/-- The relay port that serves a logical lane (R313). -/
def State.port (s : State) (l : Nat) : Nat := s.f RL_LANEMAP (4 * l + 3) (4 * l)
/-- The spare that serves a logical group, if one does (R251). -/
def State.spareOf (s : State) (g : Nat) : Option Nat :=
  findBelow 4 (fun k => s.b YD_GMAP (16 * k + 15) && decide (s.f YD_GMAP (16 * k + 7) (16 * k) = g))
/-- The unit that serves a logical group. -/
def State.groupUnit (s : State) (g : Nat) : UnitId :=
  match s.spareOf g with
  | some k => BitVec.ofNat 16 (0x300 + k)
  | none => BitVec.ofNat 16 (0x200 + g)

/-- A unit serves a logical position, or has no spares (R445). -/
def State.unitActive (s : State) (u : UnitId) : Bool :=
  let i := fld u 7 0
  match fld u 15 8 with
  | 1 => (findBelow 64 (fun l => decide (s.carriage l = i))).isSome
  | 2 => (s.spareOf i).isNone
  | 3 => s.b YD_GMAP (16 * i + 15)
  | 8 => (findBelow 8 (fun l => decide (s.port l = i))).isSome
  | _ => true

/-- An INSPECT window holds a station's units (R74, R76); `unit` is the bit of UNITS. -/
def State.inspecting (s : State) (unit : Nat) : Bool :=
  s.seq.windows.any (fun w => decide (w.1 ≤ s.cycle) && decide (s.cycle ≤ w.2.1) && decide (w.2.2 / 2 ^ unit % 2 = 1))

/-- No timetable is admitted (R445). -/
def State.noTimetable (s : State) : Bool := (s.tt = 0 || s.tt = 3) && !s.b HN_TT_STATE 16

/-- An active unit of a class is under test with no timetable admitted: the unit's requesters wait (R446, log 54). -/
def State.testing (s : State) (cls : Nat) : Bool :=
  match s.coach.test with
  | some j => decide (fld j.unit 15 8 = cls) && s.noTimetable && s.unitActive j.unit
  | none => false

/-- A unit of a class may be put in service: idle and not fenced (R445, R448). -/
def State.spareFree (s : State) (u : UnitId) : Bool :=
  match unitDomain u with
  | some d => !s.unitActive u && !s.unitBit HL_FENCE d
  | none => false
def State.reinstated (s : State) (u : UnitId) : Bool :=
  match unitDomain u with
  | some d => s.unitBit HL_REINST d
  | none => false

/-- Class base and number of the units that can replace one of a class (R448): carriages, spare groups, relay ports. -/
def spareClass (u : UnitId) : Option (Nat × Nat) :=
  match fld u 15 8 with
  | 1 => some (0x100, 68)
  | 2 => some (0x300, 4)
  | 3 => some (0x300, 4)
  | 8 => some (0x800, 9)
  | _ => none

/-- The spare R448 chooses for a unit: the lowest free one never reinstated, or else the lowest reinstated. -/
def State.chooseSpare (s : State) (u : UnitId) : Option UnitId :=
  match spareClass u with
  | none => none
  | some (base, n) =>
    let id := fun i => (BitVec.ofNat 16 (base + i) : UnitId)
    match findBelow n (fun i => s.spareFree (id i) && !s.reinstated (id i)) with
    | some i => some (id i)
    | none => (findBelow n (fun i => s.spareFree (id i))).map id

/-- An OSTLER_EVENT receipt (R451). -/
def State.ostlerEvent (s : State) (ev : Nat) (u : UnitId) (reason : Nat) (spare : Nat) : State :=
  s.unsolicited 0x8004 (BitVec.ofNat 64 (ev + u.toNat * 2 ^ 8 + reason * 2 ^ 24)) (BitVec.ofNat 64 s.leg.toNat)
    (BitVec.ofNat 64 spare)

/-- A dead active unit that no spare can replace stays in service (R448). -/
def State.noSpare (s : State) (u : UnitId) : State := (s.setB HL_ALERT 0 true).ostlerEvent 4 u 0 0

/-- The logical group a group unit serves. -/
def State.groupOfUnit (s : State) (u : UnitId) : Nat :=
  if fld u 15 8 = 3 then s.f YD_GMAP (16 * fld u 7 0 + 7) (16 * fld u 7 0) else fld u 7 0

/-- The Ostler declares a unit dead (R447) and follows R448: an idle unit is fenced at once; an active one with a spare awaits
a changeover, a group its rescue first, unless it no longer answers reads, which is a free choice (log 10); one without a
spare stays. -/
def State.declareDead (s : State) (u : UnitId) (reason : Nat) : State :=
  match unitDomain u with
  | none => s
  | some d =>
    if s.unitBit HL_DEAD d then s
    else
      let s1 := (s.setUnit HL_DEAD d true).ostlerEvent 1 u reason 0
      if !s1.unitActive u then s1.setUnit HL_FENCE d true
      else if (s1.chooseSpare u).isNone then s1.noSpare u
      else
        let s2 : State := { s1 with ostler := { s1.ostler with todo := s1.ostler.todo ++ [u] } }
        if fld u 15 8 = 2 ∨ fld u 15 8 = 3 then
          let g := s2.groupOfUnit u
          let (mute, s3) := s2.flip
          if mute then { s3 with ostler := { s3.ostler with mute := setIn g true s3.ostler.mute } }
          else s3.later 98304 (.groupRescue (BitVec.ofNat 8 g))
        else s2

/-- An HL error counter counts, and kills its unit when it reaches its threshold (R444, R447). -/
def State.unitError (s : State) (ctr : Nat) (thr : Nat) (u : UnitId) : State :=
  let s1 := s.count ctr 1
  if thr ≠ 0 ∧ thr ≤ s1.f ctr 47 0 then s1.declareDead u 2 else s1

/-! ## The Yard -/

/-- Bytes of the Yard, of a group, of a bank (R228). -/
def yardBytes : Nat := 0x18000000
def groupBytes : Nat := 0x180000
def bankBytes : Nat := 0xC0000
def groupOf (o : Nat) : Nat := o / groupBytes
def bankOf (o : Nat) : Nat := o / bankBytes

/-- The distance class between a hub and the quarter of an offset (R229). -/
def distClass (hub o : Nat) : Nat :=
  let q := bankOf o / 128
  match (hub - q) + (q - hub) with
  | 0 => 4
  | 1 => 6
  | 2 => 9
  | _ => 12

/-- Owner classes (R232). -/
def ownCore : Nat := 0
def ownUns : Nat := 1
def ownRelay : Nat := 2
def ownTt : Nat := 3
def ownCoach : Nat := 4

/-- The owner class of the group of an offset. -/
def State.owner (s : State) (o : Nat) : Nat := s.f (YD_OWNER (groupOf o)) 2 0

/-- Every byte of a range lies in the Yard, in groups whose owner satisfies p. -/
def State.owned (s : State) (p : Nat → Bool) (o n : Nat) : Bool :=
  decide (o + n ≤ yardBytes) &&
    (List.range (groupOf (o + (n - 1)) + 1 - groupOf o)).all (fun i => p (s.f (YD_OWNER (groupOf o + i)) 2 0))

/-- The offset from a Yard offset of its first byte in a group that may not be used. -/
def State.ownedUpTo (s : State) (may : Nat → Bool) (y n : Nat) : Nat :=
  match (List.range (groupOf (y + (n - 1)) + 1 - groupOf y)).find? (fun j => !may (s.f (YD_OWNER (groupOf y + j)) 2 0)) with
  | some (j + 1) => (groupOf y + j + 1) * groupBytes - y
  | _ => 0

/-- Timetable slots read timetable and relay-receive groups and write timetable groups (R35). -/
def ttReads (c : Nat) : Bool := c = ownTt || c = ownRelay
def ttWrites (c : Nat) : Bool := c = ownTt
def coreOnly (c : Nat) : Bool := c = ownCore

/-- The word an offset lies in. -/
def wordOf (o : Nat) : Nat := o - o % 8

/-- YD_ECC_UE records the first uncorrectable word (R236); with HL_THRESH.UE_KILL it kills the group (R447). -/
def State.noteUE (s : State) (w : Nat) : State :=
  let s1 := if s.b YD_ECC_UE 63 then s else s.wrSet YD_ECC_UE (BitVec.ofNat 64 (2 ^ 63 + w))
  if s1.b HL_THRESH 63 then s1.declareDead (s1.groupUnit (groupOf w)) 3 else s1
/-- HL_ERR_GRP of a group unit: spare groups are the physical groups from 256 on (R410, R444). -/
def groupCtr (u : UnitId) : Nat := HL_ERR_GRP (if fld u 15 8 = 3 then 256 + fld u 7 0 else fld u 7 0)
/-- A single-bit error is corrected and counted, against its group too (R236, R444, R447). -/
def State.noteCE (s : State) (w : Nat) : State :=
  let u := s.groupUnit (groupOf w)
  (s.count YD_ECC_CE 1).unitError (groupCtr u) (s.f HL_THRESH 23 12) u
/-- A word's error is counted or recorded as it is read (R236). -/
def State.seeWord (s : State) (w : Nat) : State :=
  if inSet w s.yard.bad then s.noteUE w else if inSet w s.yard.weak then s.noteCE w else s

/-- The uncorrectable words of a range. -/
def State.badIn (s : State) (o n : Nat) : List Nat := s.yard.bad.filter (fun w => decide (w + 8 > o) && decide (w < o + n))

/-- The words of a range with a single-bit error. -/
def State.weakIn (s : State) (o n : Nat) : List Nat := s.yard.weak.filter (fun w => decide (w + 8 > o) && decide (w < o + n))

/-- The errors of a range's words are counted and recorded as it is read (R236). -/
def State.seeRange (s : State) (o n : Nat) : State := (s.weakIn o n).foldl State.noteCE ((s.badIn o n).foldl State.noteUE s)

/-- A read of n bytes: an uncorrectable word reads as zero and is recorded (R236). -/
def State.yRead (s : State) (o n : Nat) : List Byte × State :=
  let m := (s.badIn o n).foldl (fun m w => Mem.clear m w 8) s.yard.mem
  (m.read o n, s.seeRange o n)

/-- A write of the bytes [o, o + n) reaches an admitted image or its map: the admission is void (R79). -/
def Coach.wrote (k : Coach) (o n : Nat) : Coach :=
  match k.adm with
  | some a => if a.spans.any (fun p => decide (p.1 < o + n) && decide (o < p.1 + p.2)) then { k with adm := some { a with void := true } } else k
  | none => k

/-- A write of bytes; a word written whole is free of errors. Tags stay (R234). -/
def State.yWrite (s : State) (o : Nat) (bs : List Byte) : State :=
  let stays := fun (w : Nat) => !(decide (o ≤ w) && decide (w + 8 ≤ o + bs.length))
  { s with
    coach := s.coach.wrote o bs.length
    yard := { s.yard with
      mem := s.yard.mem.write o bs,
      bad := s.yard.bad.filter stays, weak := s.yard.weak.filter stays } }

/-- A 64-bit word of the Yard. -/
def State.yWord (s : State) (w : Nat) : Word := BitVec.ofNat 64 (if inSet w s.yard.bad then 0 else s.yard.mem.num w 8)

/-- The tag of a word as a tag operation sees it: an uncorrectable word counts as empty (R236). -/
def State.tag (s : State) (w : Nat) : Bool := inSet w s.yard.full && !inSet w s.yard.bad

/-- A change of SC_DOORBELL's word from empty to full sets SC_IPEND.DOORBELL while EN is 1 (R357). -/
def State.ring (s : State) (w : Nat) : State :=
  if s.b SC_DOORBELL 63 ∧ s.f SC_DOORBELL 28 3 * 8 = w then s.setB SC_IPEND 45 true else s

/-- A word's tag is set (R235), with the doorbell. -/
def State.setTag (s : State) (w : Nat) (b : Bool) : State :=
  let rose := b && !inSet w s.yard.full
  let s1 : State := { s with yard := { s.yard with full := setIn w b s.yard.full } }
  if rose then s1.ring w else s1

/-! ## The tailboard ports (R33, R39, R231) -/

/-- A bank's tailboard port has served no request in this ACLK, and none waits for it. -/
def State.portFree (s : State) (b : Nat) : Bool :=
  !s.yard.served.contains (b, s.time.toNat) && !s.yard.tail.any (fun p => decide (p.1 = b))

/-- A bank's tailboard port serves a request in this ACLK. -/
def State.takePort (s : State) (b : Nat) : State :=
  { s with yard := { s.yard with served := s.yard.served.filter (fun p => decide (p.2 = s.time.toNat)) ++ [(b, s.time.toNat)] } }

/-- A request waits for a bank's tailboard port, after those that came before it. -/
def State.joinTail (s : State) (b : Nat) (r : TailReq) : State :=
  { s with yard := { s.yard with tail := s.yard.tail ++ [(b, r)] } }

/-- A request of another plane on a word reaches the bank now, or waits (R33). -/
def State.viaPort {β : Type} (s : State) (b : Nat) (now : State → β) (wait : State → β) : β :=
  if s.portFree b then now (s.takePort b) else wait s

/-! ## The waiting room -/

/-- Ids of requesters (R245). -/
def idCore : Nat := 0x00
def idChan (c : Nat) : Nat := 0x10 + c
def idLane (l : Nat) : Nat := 0x50 + l
def idRelay (l : Nat) : Nat := 0x58 + l
def idHorn : Nat := 0x68
def idCoach : Nat := 0x70
def idFabric : Nat := 0x78

/-- The hub of a waiter (R229): Waybill channels 0; the core and the Coachman 3. -/
def hubOfId (id : Nat) : Nat := if 0x10 ≤ id ∧ id < 0x48 then 0 else 3

/-- The distance class of a waiter to an object (R229, R247). -/
def waitClass (id : Nat) : Obj → Nat
  | .word w => distClass (hubOfId id) w
  | _ => 4

/-- The wired waiters of an entry. -/
def Entry.wired (e : Entry) : List (Nat × Nat) := e.slots.filterMap id

/-- THRESH of an entry: the smallest VALUE wired (R246). -/
def Entry.thresh (e : Entry) : Nat :=
  match e.wired with
  | [] => 0
  | (_, v) :: t => t.foldl (fun m p => min m p.2) v

/-- The wake wire of a waiter fires: it arrives at twice the distance class (R247). -/
def State.wake (s : State) (o : Obj) (id : Nat) : State :=
  ({ s with yard := { s.yard with wakes := setIn id true s.yard.wakes } } : State).later (2 * waitClass id o)
    (.wakeArrival (BitVec.ofNat 8 id))

/-- A change of an object by a signaller with an operation (R246); `val` is a counter's new value. -/
def State.changed (s : State) (o : Obj) (who op : Nat) (val : Option Nat) : State :=
  match s.yard.room.find? (fun e => decide (e.obj = o)) with
  | none => s
  | some e =>
    let e' := { e with last := who, lastOp := op, lastTs := fld s.time 31 0 }
    let s1 : State := { s with yard := { s.yard with
      room := s.yard.room.map (fun x => if x.obj = o then e' else x) } }
    let fires := match val with | none => true | some v => decide (e.thresh ≤ v)
    if fires then e.wired.foldl (fun t p => t.wake o p.1) s1 else s1

/-- Put a waiter into the first free slot. -/
def wireIn (p : Nat × Nat) : List (Option (Nat × Nat)) → Option (List (Option (Nat × Nat)))
  | [] => none
  | none :: t => some (some p :: t)
  | some q :: t => (wireIn p t).map (some q :: ·)

/-- A waiter that waits for an object without a wired slot, while no entry serves the object: it polls (R250). -/
def State.pollers (s : State) (o : Obj) (id : Nat) : List Nat :=
  let core := match s.core.wait with | some ⟨_, .local p, _, _⟩ => decide (p = o) | _ => false
  let chan := fun (c : Nat) => match (s.wb.ch.toList.getD c Chan.empty).active with
    | some d => d.gated && decide (o = .ctr (fld d.gate 11 0))
    | none => false
  ((if core then [idCore] else []) ++ ((List.range 56).filter chan).map idChan).filter (fun x => decide (x ≠ id))

/-- A waiter registers on an object (R244), or falls back to polling (R250): the state, and whether it polls. `polling`: it
polled already, so that YD_WR_FULLCNT does not count it again. -/
def State.enroll (s : State) (o : Obj) (id val : Nat) (polling : Bool) : State × Bool :=
  match s.yard.room.find? (fun e => decide (e.obj = o)) with
  | some e =>
    let e0 := { e with polls := e.polls.filter (fun x => decide (x ≠ id)) }
    match wireIn (id, val) e0.slots with
    | some sl =>
      ({ s with yard := { s.yard with room := s.yard.room.map (fun x => if x.obj = o then { e0 with slots := sl } else x) } },
        false)
    | none =>
      let s1 : State := { s with yard := { s.yard with
        room := s.yard.room.map (fun x => if x.obj = o then { e0 with polls := e0.polls ++ [id] } else x) } }
      (if polling then s1 else s1.count YD_WR_FULLCNT 1, true)
  | none =>
    if s.yard.room.length < 4096 then
      let ts := fld s.time 31 0
      let no := (findBelow 4096 (fun i => !s.yard.room.any (fun e => decide (e.no = i)))).getD 0
      let e : Entry := ⟨no, o, [some (id, val), none, none, none], s.pollers o id, 0xFF, 0, 0, ts⟩
      let s1 : State := { s with yard := { s.yard with room := s.yard.room ++ [e] } }
      let n := s1.yard.room.length
      (if s1.f YD_WR_STATUS 28 16 < n then s1.setF YD_WR_STATUS 28 16 n else s1, false)
    else (if polling then s else s.count YD_WR_FULLCNT 1, true)

/-- A waiter leaves an object: its wired slot is freed, and an entry with no wired waiter and no poller is freed (R247). -/
def State.leave (s : State) (o : Obj) (id : Nat) : State :=
  let out := fun (e : Entry) =>
    { e with
      slots := e.slots.map (fun q => match q with | some p => if p.1 = id then none else some p | none => none),
      polls := e.polls.filter (fun x => decide (x ≠ id)) }
  let room := s.yard.room.map (fun e => if e.obj = o then out e else e)
  { s with yard := { s.yard with room := room.filter (fun e => !(e.wired.isEmpty && e.polls.isEmpty)) } }

/-- A waiter leaves every object, and a wake on its way is ignored (R249). -/
def State.leaveAll (s : State) (id : Nat) : State :=
  let s1 := (s.yard.room.map (·.obj)).foldl (fun t o => t.leave o id) s
  { s1 with yard := { s1.yard with wakes := setIn id false s1.yard.wakes, ungating := setIn id false s1.yard.ungating } }

/-- The four words of a waiting-room entry in the layout of R253; `none` gives a free entry. -/
def entryWords : Option Entry → List Word
  | none => [0, 0, 0, 0]
  | some e =>
    let (kind, target) := match e.obj with
      | .word w => (0, w)
      | .ctr i => (1, i)
      | .mbox n => (2, n)
    let ids := e.slots.map (fun q => match q with | some p => BitVec.ofNat 8 p.1 | none => (0xFF : Byte))
    let count := e.wired.length + e.polls.length
    let thr := match e.obj with | .ctr _ => e.thresh | _ => 0
    [BitVec.ofNat 64 (2 ^ 63 + kind * 2 ^ 61 + target % 2 ^ 29),
     BitVec.ofNat 64 ((count % 256) * 2 ^ 32 + ofBytes ids),
     BitVec.ofNat 64 (e.last * 2 ^ 40 + e.lastOp * 2 ^ 32 + e.lastTs),
     BitVec.ofNat 64 (e.allocTs * 2 ^ 32 + thr % 2 ^ 32)]

/-! ## Tag operations, counters, mailboxes -/

/-- LASTOP codes (R253). -/
def opPut : Nat := 1
def opTake : Nat := 2
def opFill : Nat := 4
def opEmpty : Nat := 5
def opInc : Nat := 6
def opDec : Nat := 7
def opRelay : Nat := 8
def opMail : Nat := 9
def opSend : Nat := 10
def opRecv : Nat := 11

/-- A tag operation changes a word's tag; an operation that leaves the tag as it stands is no change (log 11). -/
def State.retag (s : State) (w : Nat) (b : Bool) (who op : Nat) : State :=
  if inSet w s.yard.full = b then s else (s.setTag w b).changed (.word w) who op none

/-- A word that is written with its tag set full records the change whether or not the tag stood so (R246, R271). -/
def State.refill (s : State) (w : Nat) (who op : Nat) : State := (s.setTag w true).changed (.word w) who op none

/-- A tagged operation on the word at offset w by a requester (R237, R71): success, the value read, the state. -/
def State.tagged (s : State) (w : Nat) (op : FabOp) (who : Nat) : Bool × Word × State :=
  let s0 := s.seeWord w
  match op with
  | .yput v =>
    if s.tag w then (false, 0, s0)
    else (true, 0, ((s0.setTag w false).yWrite w (toBytes 8 v.toNat)).retag w true who opPut)
  | .ytake => if s.tag w then (true, s.yWord w, s0.retag w false who opTake) else (false, 0, s0)
  | .ypeek => if s.tag w then (true, s.yWord w, s0) else (false, 0, s0)
  | .yfill => (true, 0, s0.retag w true who opFill)
  | .yempty => (true, 0, s0.retag w false who opEmpty)
  | .ytag => (true, if s.tag w then 1 else 0, s0)
  | _ => (false, 0, s0)

/-- The value of a sync counter (R242). -/
def State.ctr (s : State) (i : Nat) : Nat := (look (fun _ => (0 : BitVec 32)) i s.yard.ctrs).toNat

/-- A counter is given a value, with the record of a saturation (R242). -/
def State.setCtr (s : State) (i v : Nat) (sat : Option Bool) (who op : Nat) : State :=
  let old := s.ctr i
  let s1 : State := { s with yard := { s.yard with ctrs := put (fun _ => (0 : BitVec 32)) i (BitVec.ofNat 32 v) s.yard.ctrs } }
  let s2 := match sat with
    | none => s1
    | some high =>
      let s' := if s1.f YD_CTR_FLAGS 1 0 = 0 then s1.setF YD_CTR_FLAGS 27 16 i else s1
      s'.setB YD_CTR_FLAGS (if high then 1 else 0) true
  if v = old then s2 else s2.changed (.ctr i) who op (some v)

/-- YINC and its kin (R242). -/
def State.ctrInc (s : State) (i v who : Nat) : State :=
  let c := s.ctr i
  if 2 ^ 32 ≤ c + v then s.setCtr i (2 ^ 32 - 1) (some true) who opInc else s.setCtr i (c + v) none who opInc

/-- YDEC and its kin (R242). -/
def State.ctrDec (s : State) (i v who : Nat) : State :=
  let c := s.ctr i
  if c < v then s.setCtr i 0 (some false) who opDec else s.setCtr i (c - v) none who opDec

/-- Mailboxes (R255): full bit and value. -/
def State.mboxFull (s : State) (n : Nat) : Bool := inSet n s.yard.mboxFull
def State.mboxVal (s : State) (n : Nat) : Word := look (fun _ => (0 : Word)) n s.yard.mbox

/-- A send to a mailbox that is empty, and a receive from one that is full (R255). -/
def State.mbPut (s : State) (n : Nat) (v : Word) (who : Nat) : State :=
  ({ s with yard := { s.yard with
      mbox := put (fun _ => (0 : Word)) n v s.yard.mbox, mboxFull := setIn n true s.yard.mboxFull } } : State).changed
    (.mbox n) who opSend none
def State.mbTake (s : State) (n : Nat) (who : Nat) : State :=
  ({ s with yard := { s.yard with mboxFull := setIn n false s.yard.mboxFull } } : State).changed (.mbox n) who opRecv none

/-! ## Addresses and features -/

/-- The package-local part and the package of a physical address (R41). -/
def localOf (pa : Nat) : Nat := pa % 2 ^ 50
def pkgOf (pa : Nat) : Nat := pa / 2 ^ 50

/-- Where a physical address is served (R41): this block's Yard or window, DRAM, another block of this package, the host,
another package, or nowhere. -/
inductive Place where
  | yard (o : Nat) | window (o : Nat) | dram | otherYard (blk o : Nat) | otherWindow | host | package | unmapped
deriving DecidableEq, Repr

def State.place (s : State) (pa : Nat) : Place :=
  let a := localOf pa
  if pkgOf pa ≠ s.pins.pkg.toNat then .package
  else if a < 0x18000000000 then .dram
  else if 0x100000000000 ≤ a ∧ a < 0x101000000000 then
    let n := (a - 0x100000000000) / 0x100000000
    let o := (a - 0x100000000000) % 0x100000000
    if yardBytes ≤ o then .unmapped else if n = s.pins.blk.toNat then .yard o else .otherYard n o
  else if 0x200000000000 ≤ a ∧ a < 0x200010000000 then
    let n := (a - 0x200000000000) / 0x1000000
    if n = s.pins.blk.toNat then .window ((a - 0x200000000000) % 0x1000000) else .otherWindow
  else if 0x300000000000 ≤ a ∧ a < 0x400000000000 then .host
  else .unmapped

/-- An accepted feature (R403, R404). -/
def State.feature (s : State) (i : Nat) : Bool := s.b (CM_FEAT (i / 64)) (i % 64)
def featTimetable : Nat := 0
def featMail : Nat := 1
def featRelay : Nat := 2
def featExpress : Nat := 3
def featDray : Nat := 4
def featComp : Nat := 5
def featStoch : Nat := 6
def featInspect : Nat := 7
def featBerths : Nat := 8
def featAts : Nat := 9
def featMailbox : Nat := 10

/-- Timetable mode: the sequencer owns the tensor unit (R29). -/
def State.tmode (s : State) : Bool := s.b HN_CTRL 1

/-- The physical address of an offset in this block's Yard (R41). -/
def State.yardPA (s : State) (o : Nat) : Nat :=
  s.pins.pkg.toNat * 2 ^ 50 + 0x100000000000 + s.pins.blk.toNat * 0x100000000 + o

end Sys2Proof.Machine
end

