-- ==== Sys2Proof/Machine/Operands.lean ====
section
/-! DEFINITION. Operands: the fields of instruction words (R49, R237, R242, R255, R284, R344 to R347 and the tensor chapters),
the general registers (R319), and addresses a core instruction forms. -/

namespace Sys2Proof

/-- Whether all bytes of a range are answered (R42: an error response otherwise). -/
def Outside.get (o : Outside) (a n : Nat) : Option (List Byte) :=
  let c := o.rd.filter (fun p => decide (a ≤ p.1) && decide (p.1 < a + n))
  let l := (List.range n).map (fun i => (c.find? (fun p => decide (p.1 = a + i))).map (·.2))
  if l.all Option.isSome then some (l.filterMap (fun x => x)) else none

/-- Whether a write of a range gets no error response, and its lowest failing byte. -/
def Outside.wrBad (o : Outside) (a n : Nat) : Option Nat :=
  Machine.findFrom (fun i => o.wrErr.contains i) n a

end Sys2Proof

namespace Sys2Proof.Machine

/-- A general register; g0 reads as zero (R319). -/
def State.g (s : State) (r : Nat) : Word := if r = 0 then 0 else s.core.g.toList.getD r 0

/-- A write of a general register; a write to g0 is discarded (R319). -/
def State.setG (s : State) (r : Nat) (v : Word) : State :=
  if r = 0 then s else { s with core := { s.core with g := s.core.g.setIfInBounds r v } }

/-- Major opcode (R49). -/
def opcode (w : Insn) : Nat := fld w 31 26

/-- Current privilege: 0 U, 1 S, 2 M (R349). -/
def State.priv (s : State) : Nat := s.f SC_STATUS 1 0

/-- Sub, nw, b, gs, gd, ga of the Yard-sync instructions (R237, R242, R255). -/
def fSub (w : Insn) : Nat := fld w 25 24
def fNw (w : Insn) : Bool := bit w 23
def fB (w : Insn) : Bool := bit w 22
def fGs (w : Insn) : Nat := fld w 14 10
def fGd (w : Insn) : Nat := fld w 9 5
def fGa (w : Insn) : Nat := fld w 4 0
def fCtr (w : Insn) : Nat := fld w 21 10

/-- The tagged operation a tag instruction asks for (R237). -/
def tagOpOf (w : Insn) (v : Word) : FabOp :=
  if opcode w = 0x30 then
    match fSub w with
    | 0 => .yput v
    | 1 => .ytake
    | _ => .ypeek
  else
    match fSub w with
    | 0 => .yfill
    | 1 => .yempty
    | _ => .ytag

/-- A general register that receives a value: where a tag operation gives one (R237). -/
def tagGives (w : Insn) : Bool := (opcode w = 0x30 && fSub w ≠ 0) || (opcode w = 0x31 && fSub w = 2)

/-- Cause codes (R354). -/
def causeCode : Cause → Nat
  | .illegalOp => 0x01
  | .priv => 0x02
  | .align => 0x03
  | .illegalReturn => 0x04
  | .service => 0x05
  | .spanMiss => 0x08
  | .spanPerm => 0x09
  | .spanConflict => 0x0A
  | .markA => 0x0B
  | .markD => 0x0C
  | .walkDevice => 0x0D
  | .walkBus => 0x0E
  | .walkFormat => 0x0F
  | .tileBound => 0x10
  | .tileShape => 0x11
  | .nanFirst => 0x12
  | .yardOwner => 0x13
  | .tagMisuse => 0x14
  | .divZero => 0x15
  | .busError => 0x18

/-- Lines of 64 bytes. -/
def lineOf (a : Nat) : Nat := a / 64

/-- The bytes of a line, and a line of bytes. -/
def lineBytes (l : Line) : List Byte := toBytes 64 l.toNat
def ofLine (bs : List Byte) : Line := BitVec.ofNat 512 (ofBytes bs)

/-- Bytes of a list replaced from index i on. -/
def patch (l : List Byte) (i : Nat) (bs : List Byte) : List Byte := l.take i ++ bs ++ l.drop (i + bs.length)

end Sys2Proof.Machine
end

