-- ==== Sys2Proof/Machine/Tensor.lean ====
section
/-! DEFINITION. What the tensor instructions share: how an instruction ends, tiles and accumulators as they are read and written,
products, group sums and the pending sum, the LFSRs, the commit of MX and VX instructions.
Sections: R98, R103 to R112, R134 to R138, R141 to R157, R170 to R175, R188, R189, R202 to R205, R214. -/

namespace Sys2Proof.Machine

/-- How an instruction ends: done, done with another pc, a fault that it takes, or a wait. -/
inductive Ran where
  | done (s : State)
  | goto (s : State) (pc : Word)
  | fault (c : Cause) (fa : Word) (s : State)
  | hold (s : State)
deriving DecidableEq, Repr

/-- Where a tensor instruction runs (R68): in a slot or as a core instruction, with its address and its second operand. -/
structure Site where
  slot : Option SlotAt
  addr : Word
  aux  : Word
deriving DecidableEq, Repr

/-! ## Tiles -/

/-- Shape of a tile (R170). -/
def State.tileRows (s : State) (t : Nat) : Nat := s.f (TF_SHAPE t) 5 0 + 1
def State.tileW (s : State) (t : Nat) : Nat := (s.f (TF_SHAPE t) 11 8 + 1) * 64
def State.tileUsed (s : State) (t : Nat) : Bool := s.b TF_INUSE t

/-- n bytes of row r of a tile from byte o on; a tile not in use reads as zero (R171). -/
def State.tileBytes (s : State) (t r o n : Nat) : List Byte :=
  if s.tileUsed t then s.tensor.tiles.read (t * 65536 + r * 1024 + o) n else List.replicate n 0
/-- The first n bytes of row r of a tile. -/
def State.tileRow (s : State) (t r n : Nat) : List Byte := s.tileBytes t r 0 n

/-- A tile's slices leave the operand cache (R175). -/
def State.dropSlices (s : State) (t : Nat) : State :=
  let keep := fun (x : Option SliceId) => match x with | some i => if i.tile = t then none else some i | none => none
  { s with tensor := { s.tensor with sliceA := keep s.tensor.sliceA, sliceB := keep s.tensor.sliceB } }

/-- A tile is zeroed. -/
def State.tileClear (s : State) (t : Nat) : State :=
  { s with tensor := { s.tensor with tiles := s.tensor.tiles.clear (t * 65536) 65536 } }

/-- A row of a tile is written: the first write of a tile not in use leaves zero in the others (R171). -/
def State.tileWrite (s : State) (t r : Nat) (bs : List Byte) : State :=
  let s1 := if s.tileUsed t then s else s.tileClear t
  let s2 : State := { s1 with tensor := { s1.tensor with tiles := s1.tensor.tiles.write (t * 65536 + r * 1024) bs } }
  (s2.setB TF_INUSE t true).dropSlices t

/-! ## Vector registers and masks -/

/-- n bytes of a vector register from byte i on (R202). -/
def State.vRead (s : State) (v i n : Nat) : List Byte := s.tensor.vregs.read (v * 2048 + i) n
def State.vWrite (s : State) (v i : Nat) (bs : List Byte) : State :=
  { s with tensor := { s.tensor with vregs := s.tensor.vregs.write (v * 2048 + i) bs } }

/-- A mask register; m0 reads as all ones (R204). -/
def State.mask (s : State) (m : Nat) : BitVec 1024 := if m = 0 then BitVec.allOnes 1024 else s.tensor.masks.toList.getD m 0

/-! ## Accumulators -/

/-- MX_SUMMODE.MODE[a], and whether an entry is the error store of a compensated pair (R105). -/
def State.sumMode (s : State) (a : Nat) : Nat := s.f MX_SUMMODE (2 * a + 1) (2 * a)
def State.errStore (s : State) (a : Nat) : Bool := decide (a % 2 = 1) && decide (s.sumMode (a - 1) = 1)

/-- In-use and type bits as they read: an error store's are copies of its accumulator's (R105). -/
def State.accUsed (s : State) (a : Nat) : Bool := s.b MX_ACCINUSE (if s.errStore a then a - 1 else a)
def State.accInt (s : State) (a : Nat) : Bool := s.b MX_ACCTYPE (if s.errStore a then a - 1 else a)

/-- The stored pattern of a cell. -/
def State.accCell (s : State) (a cell : Nat) : Nat := (look (fun _ => (0 : BitVec 32)) (a * 4096 + cell) s.tensor.accs).toNat

/-- A stretch of cells is written. -/
def State.accWrite (s : State) (a cell : Nat) (vs : List Nat) : State :=
  { s with tensor := { s.tensor with
      accs := splice (fun _ => (0 : BitVec 32)) (a * 4096 + cell) (vs.map (BitVec.ofNat 32)) s.tensor.accs } }

/-- A type conflict (R107). -/
def State.accConflict (s : State) (a : Nat) (int : Bool) : Bool := s.accUsed a && (s.accInt a != int)

/-- An instruction of the matrix array that faults in core mode is handled as abandoned, and counted (R135, R140); one that the
unit never accepts, for its encoding, its privilege or the unit's mode, is not (log 47). -/
def State.mxGivenUp (s : State) (site : Site) : State := if site.slot.isNone then s.count MX_CNT_ABANDON 1 else s

/-- TILE_SHAPE with a reason; MX_FAULTINFO is written in core mode (R140). -/
def State.mxFault (s : State) (w : Insn) (site : Site) (reason : Nat) : Ran :=
  .fault .tileShape 0
    (if site.slot.isNone then (s.wr MX_FAULTINFO (BitVec.ofNat 64 (opcode w * 256 + reason))).mxGivenUp site else s)

/-! ## Products and pending sums (R145 to R150) -/

/-- A non-zero subnormal element becomes +0 under FTZ (R154): the value, and whether it was flushed. -/
def feed (f : Fmt) (ftz : Bool) (x : Nat) : FV × Bool :=
  if ftz && f.isSub x then (.fin false 0 0, true) else (f.dec x, false)

/-- The little-endian numbers of n bytes in a list of bytes. -/
def elems (n : Nat) (bs : List Byte) : List Nat :=
  (List.range (bs.length / n)).map (fun i => ofBytes ((bs.drop (i * n)).take n))

/-- Stretches of n elements. -/
def chunksOf {β : Type} (n : Nat) (l : List β) : List (List β) :=
  (List.range (cdiv l.length n)).map (fun i => (l.drop (i * n)).take n)

/-- The two pieces of an FP32 element (R146). -/
def hiLo : FV → FV × FV
  | .fin n m e =>
    let q := topExp m e - 11
    if m = 0 ∨ q ≤ e then (.fin n m e, .fin n 0 e)
    else
      let k := (q - e).toNat
      (.fin n (m >>> k) q, .fin n (m % 2 ^ k) e)
  | v => (v, .fin false 0 0)

/-- A piece product of a pair: 0 hi·hi, 1 hi·lo, 2 lo·hi; with a non-finite element hi·hi is the whole product, the others +0. -/
def pieceProd (which : Nat) (p : FV × FV) : FV :=
  let (a, b) := p
  if a.isFin && b.isFin then
    let (ah, al) := hiLo a
    let (bh, bl) := hiLo b
    match which with
    | 0 => ah.mul bh
    | 1 => ah.mul bl
    | _ => al.mul bh
  else if which = 0 then a.mul b else .fin false 0 0

/-- The sum of a group of exact products (R149, R150). -/
def groupSum (ps : List FV) : PVal :=
  let pinf := ps.any (fun p => match p with | .inf false => true | _ => false)
  let ninf := ps.any (fun p => match p with | .inf true => true | _ => false)
  if ps.any FV.isNan || (pinf && ninf) then .nan
  else if pinf then .inf false
  else if ninf then .inf true
  else
    let nz := ps.filter (fun p => !p.isZero)
    let tops := nz.map (fun p => match p with | .fin _ m e => topExp m e | _ => 0)
    match tops with
    | [] => .fin 0 0
    | t :: r =>
      let q := r.foldl max t - 30
      .fin (nz.foldl (fun z p => match p with | .fin n m e => z + signed n (truncAt m e q) | _ => z) 0) q

/-- Sum of two pending values (R150). -/
def PVal.add : PVal → PVal → PVal
  | .nan, _ => .nan
  | _, .nan => .nan
  | .inf a, .inf b => if a = b then .inf a else .nan
  | .inf a, _ => .inf a
  | _, .inf b => .inf b
  | .fin z e, .fin y f =>
    let g := min e f
    .fin (z * 2 ^ (e - g).toNat + y * 2 ^ (f - g).toNat) g

/-- The nearest value with a 40-bit significand, ties to even (R149). -/
def PVal.round40 : PVal → PVal
  | .fin z e =>
    let m := z.natAbs
    if bitLen m ≤ 40 then .fin z e
    else
      let q := topExp m e - 39
      .fin (signed (decide (z < 0)) (roundAt m e q).1) q
  | v => v

/-- Further groups enter a pending sum; the first of an instruction loads it (R108, R149). -/
def feedSum (first : Bool) (p : PVal) : List (List FV) → PVal
  | [] => p
  | g :: gs => gs.foldl (fun q h => (q.add (groupSum h)).round40) (if first then groupSum g else (p.add (groupSum g)).round40)

/-- The groups of one cell cycle for two slices of a row (R117, R148). `passes` is 0 for FP16. -/
def cycleGroups (passes grp c : Nat) (a b : List FV) : List (List FV) :=
  let ps := a.zip b
  match passes with
  | 0 => chunksOf grp (ps.map (fun p => p.1.mul p.2))
  | 1 => chunksOf (min grp 8) (ps.map (pieceProd 0))
  | 2 => chunksOf grp (ps.flatMap (fun p => [pieceProd 0 p, pieceProd 1 p]))
  | _ => chunksOf grp (ps.map (pieceProd (c % 3)))

/-- Contributions of a cell cycle join the pending sums of their cells; a cell without one has zero. -/
def joinSums (old : List (Nat × PVal)) (new : List (Nat × (PVal → PVal))) : List (Nat × PVal) :=
  (new.zip (old.map (·.2) ++ List.replicate new.length (.fin 0 0))).map (fun p => (p.1.1, p.1.2 p.2))

/-- An INT8 element by its signedness (R143). -/
def int8 (sg : Bool) (b : Byte) : Int := if sg then sext 8 b.toNat else b.toNat

/-- The exact integer product of two rows (R143). -/
def intDot (a b : List Int) : PVal := .fin ((a.zip b).foldl (fun z p => z + p.1 * p.2) 0) 0

/-- MX_MODE.GROUP (R140). -/
def State.groupSize (s : State) : Nat :=
  match s.f MX_MODE 1 0 with
  | 0 => 4
  | 1 => 8
  | _ => 16
def State.ftz (s : State) : Bool := s.b MX_MODE 7

/-! ## The LFSRs (R112, R153) -/

def cellStep (x : Nat) : Nat := if x % 2 = 1 then (x / 2) ^^^ 0x80200003 else x / 2
def cellSteps : Nat → Nat → Nat
  | 0, x => x
  | n + 1, x => cellSteps n (cellStep x)
def cellSeed (seed : Word) (cell : Nat) : Nat :=
  let x := (fld seed 31 0) ^^^ (fld seed 63 32) ^^^ (((cell + 1) * 0x9E3779B9) % 2 ^ 32)
  if x = 0 then 0x80200003 else x
/-- The n-th draw of a cell after seeding, n from 1. -/
def cellDraw (seed : Word) (cell n : Nat) : Nat := cellSteps (16 * n) (cellSeed seed cell) % 65536

/-- Every cell is reseeded from MX_SEED (R112). -/
def State.reseed (s : State) : State := { s with tensor := { s.tensor with seed := s.rd MX_SEED, draws := 0 } }

/-! ## The commit (R109 to R112, R151, R152) -/

/-- What a commit gives one cell. -/
structure Cell where
  acc   : Nat
  err   : Nat
  nan   : Bool
  sat   : Bool
  flush : Bool
deriving DecidableEq, Repr

/-- A pending value of an FP32 pattern. -/
def f32P (x : Nat) : PVal :=
  match f32.dec x with
  | .nan _ => .nan
  | .inf n => .inf n
  | .fin n m e => .fin (signed n m) e

/-- Stochastic rounding with a 16-bit draw (R152): the encoding, and whether it passed the largest finite value. Above that value the
spacing goes on, with 2^128 as its upper neighbour (DESIGN CHOICE, log 50: R152 names no neighbour there). -/
def roundStoch (z e : Int) (x : Nat) : Nat × Bool :=
  let m := z.natAbs
  let q := f32.quantum m e
  let (lo, f) : Int × Nat :=
    if q ≤ e then (z * 2 ^ (e - q).toNat, 0)
    else
      let d : Int := 2 ^ (q - e).toNat
      (z.fdiv d, ((z.fmod d) * 65536 / d).toNat)
  let exact := decide (q ≤ e) || decide (z.fmod (2 ^ (q - e).toNat) = 0)
  let k := if exact then lo else if x < f then lo + 1 else lo
  let neg := decide (k < 0)
  if k ≠ 0 ∧ topExp k.natAbs q > f32.emax then (f32.maxBits neg, true) else (f32.enc neg k.natAbs q, false)

/-- The commit of one FP32 cell (R151). `mode`: 0 nearest, 1 compensated, 2 stochastic with draw x. -/
def commitFP (mode : Nat) (ftz clear : Bool) (acc err : Nat) (pend : PVal) (x : Nat) : Cell :=
  let base := if clear then PVal.fin 0 0 else f32P acc
  let t0 := base.add pend
  let t := if mode = 1 && !clear then t0.add (f32P err) else t0
  match t with
  | .nan => ⟨f32.qnan, 0, true, false, false⟩
  | .inf n => ⟨f32.infBits n, 0, false, false, false⟩
  | .fin z e =>
    let (r, sat) := if z = 0 then (0, false) else if mode = 2 then roundStoch z e x else f32.roundSat (decide (z < 0)) z.natAbs e
    if sat then ⟨r, 0, false, true, false⟩
    else
      let fl := ftz && f32.isSub r
      let r' := if fl then 0 else r
      let er := match t.add (match f32P r' with | .fin y f => .fin (-y) f | v => v) with
        | .fin y f => (f32.roundSat (decide (y < 0)) y.natAbs f).1
        | _ => 0
      ⟨f32.plusZero r', f32.plusZero er, false, false, fl⟩

/-- The commit of one INT32 cell (R111). -/
def commitInt (clear : Bool) (acc : Nat) (pend : PVal) : Cell :=
  let z := (if clear then 0 else int32 acc) + (match pend with | .fin z _ => z | _ => 0)
  if z > 2 ^ 31 - 1 then ⟨0x7FFFFFFF, 0, false, true, false⟩
  else if z < -(2 ^ 31) then ⟨0x80000000, 0, false, true, false⟩
  else ⟨ofInt32 z, 0, false, false, false⟩

/-- Keys in rising order, each once. -/
def rising : List Nat → Bool
  | a :: b :: t => decide (a < b) && rising (b :: t)
  | _ => true
def inOrder (l : List Nat) : List Nat := if rising l then l else l.foldl (fun l k => setIn k true l) []

/-- What a commit does to one accumulator: cells by number (an unlisted one becomes +0). -/
def State.commitAcc (s : State) (op : MxOp) (a draw : Nat) (cells : List (Nat × PVal)) : List (Nat × Cell) :=
  let mode := if op.int then 0 else s.sumMode a
  let used := s.accUsed a
  let keysOf := fun (b : Nat) => (s.tensor.accs.filter (fun c => decide (b * 4096 ≤ c.1) && decide (c.1 < b * 4096 + 4096))).map
    (fun c => c.1 - b * 4096)
  let held := keysOf a ++ (if mode = 1 then keysOf (a + 1) else [])
  let keys := held.foldl (fun l k => setIn k true l) (inOrder (cells.map (·.1)))
  keys.map (fun k =>
    let p := match cells.find? (fun c => decide (c.1 = k)) with | some c => c.2 | none => PVal.fin 0 0
    let acc := if used then s.accCell a k else 0
    let err := if used then s.accCell (a + 1) k else 0
    (k, if op.int then commitInt op.clear acc p
        else commitFP mode s.ftz op.clear acc err p (cellDraw s.tensor.seed k (s.tensor.draws + draw))))

/-- Cells as a whole accumulator. -/
def dense (l : List (Nat × Nat)) : List Nat := (List.range 4096).map (fun k => look (fun _ => (0 : Nat)) k l)

/-- Cells of a table are replaced by a new set of cells. -/
def State.accReplace (s : State) (a : Nat) (cells : List (Nat × Nat)) : State :=
  let lo := a * 4096
  { s with tensor := { s.tensor with
      accs := s.tensor.accs.filter (fun c => decide (c.1 < lo)) ++
        (cells.filterMap (fun c => if c.2 % 2 ^ 32 = 0 ∨ 4096 ≤ c.1 then none else some (lo + c.1, BitVec.ofNat 32 c.2))) ++
        s.tensor.accs.filter (fun c => decide (lo + 4096 ≤ c.1)) } }

/-- The first NaN cell of a commit: accumulator, row, column (R138). -/
def firstNan : List (Nat × List (Nat × Cell)) → Option (Nat × Nat × Nat)
  | [] => none
  | (a, cs) :: t =>
    match cs.find? (fun c => c.2.nan) with
    | some c => some (a, c.1 / 64, c.1 % 64)
    | none => firstNan t

/-- NAN_FIRST in timetable mode (R98): recorded if none is, and an event of the Guard. -/
def State.nanEvent (s : State) (slot acc row col : Nat) : State :=
  let s1 := if s.b HN_NANINFO 63 then s
    else s.wr HN_NANINFO (BitVec.ofNat 64 (2 ^ 63 + col * 2 ^ 28 + row * 2 ^ 22 + acc * 2 ^ 18 + slot))
  s1.guard 4 0 slot

/-- MX_NANINFO and MX_NANPC at the trap of R137; kind 0 TMMA, 1 TMMV, 2 TDRAIN. -/
def State.nanTrap (s : State) (kind acc row col : Nat) (pc : Word) : State :=
  (s.wrSet MX_NANINFO (BitVec.ofNat 64 (2 ^ 63 + kind * 2 ^ 24 + col * 2 ^ 18 + row * 2 ^ 12 + acc))).wr MX_NANPC pc

/-- The accumulators of an instruction with the draw each takes, counted from 1 (R112, R153). -/
def drawsOf (s : State) (int : Bool) : List Nat → Nat → List (Nat × Nat)
  | [], _ => []
  | a :: t, n => if !int ∧ s.sumMode a = 2 then (a, n + 1) :: drawsOf s int t (n + 1) else (a, n) :: drawsOf s int t n

/-- One accumulator's commit is applied: cells, error store, in-use and type bits, saturation, flags (R104, R109 to R111). -/
def State.commitApply (s : State) (op : MxOp) (a : Nat) (cs : List (Nat × Cell)) : State :=
  let s1 := s.accReplace a (cs.map (fun c => (c.1, c.2.acc)))
  let s2 := if s.sumMode a = 1 ∧ a % 2 = 0 then s1.accReplace (a + 1) (cs.map (fun c => (c.1, c.2.err))) else s1
  let s3 := (s2.setB MX_ACCINUSE a true).setB MX_ACCTYPE a op.int
  let s4 := if cs.any (fun c => c.2.sat) || op.slice then s3.setB MX_SATFLAGS a true else s3
  if cs.any (fun c => c.2.flush) then s4.setB MX_FLAGS 0 true else s4

/-- Every accumulator's commit, the draws, the flags of the instruction and its count. -/
def State.commitAll (s : State) (op : MxOp) (accs : List (Nat × Nat)) (res : List (Nat × List (Nat × Cell))) : State :=
  let s1 := res.foldl (fun t p => t.commitApply op p.1 p.2) s
  let n := accs.foldl (fun m p => max m p.2) 0
  let s2 : State := { s1 with tensor := { s1.tensor with draws := s1.tensor.draws + n } }
  let s3 := if op.slice then s2.setB MX_FLAGS 1 true else s2
  (if op.flushed then s3.setB MX_FLAGS 0 true else s3).count MX_CNT_DONE 1

/-- The commit of one instruction (R109, R110): either it faults in core mode (the state with the trap's record), or all its
side effects come about. -/
def State.commitOp (s : State) (op : MxOp) : Option State × State :=
  let accs := drawsOf s op.int (op.sums.map (·.1)) 0
  let res := (op.sums.zip accs).map (fun p => (p.1.1, s.commitAcc op p.1.1 p.2.2 p.1.2))
  let nan := firstNan res
  let kind := if opcode op.w = 0x29 then 1 else 0
  match op.slot, nan with
  | none, some (a, r, c) =>
    if s.b MX_NANINFO 63 then (none, s.commitAll op accs res)
    else (some (s.nanTrap kind a r c op.pc), s)
  | some sl, some (a, r, c) => (none, (s.commitAll op accs res).nanEvent sl.idx.toNat a r c)
  | _, none => (none, s.commitAll op accs res)
/-- The commit of a vector instruction (R214): its bytes, its mask, its flags. -/
def State.vxApply (s : State) (op : VxOp) : State :=
  let s1 : State := { s with tensor := { s.tensor with
    vregs := op.wr.foldl (fun m p => m.write p.1 [p.2]) s.tensor.vregs,
    masks := match op.mask with
      | some (m, k, v) => s.tensor.masks.setIfInBounds m ((s.tensor.masks.toList.getD m 0 &&& ~~~k) ||| (v &&& k))
      | none => s.tensor.masks } }
  (s1.orBits VX_FLAGS (BitVec.ofNat 64 op.flags.toNat)).count VX_CNT_DONE 1

/-! ## Operations in progress (R114, R116, R174) -/

/-- Whether a part writes the tensor unit's state, which is seen from the next cycle on. -/
def Micro.late : Micro → Bool
  | .groupWrite _ => true
  | .waveWrite _ => true
  | .effect => true
  | _ => false

/-- A part takes its place: by cycles, and what is seen from a cycle before what is read in it. -/
def addDue (p : Nat × Micro) : List (Nat × Micro) → List (Nat × Micro)
  | [] => [p]
  | q :: l =>
    let key := fun (x : Nat × Micro) => 2 * x.1 + (if x.2.late then 0 else 1)
    if key p < key q then p :: q :: l else q :: addDue p l

def Job.site (j : Job) : Site := ⟨j.at_, j.addr, j.aux⟩

/-- Parts join a job, their cycles counted from its acceptance. -/
def Job.plan (j : Job) (l : List (Nat × Micro)) : Job :=
  { j with todo := l.foldl (fun q p => addDue (j.t + p.1, p.2) q) j.todo }

/-- An operation on a tile begins; the tile's shape is sampled (R172), and VL (R214). -/
def State.startJob (s : State) (site : Site) (st : Nat) (w : Insn) (tile : Nat) (l : List (Nat × Micro)) (f : Job → Job) : State :=
  let j : Job := ⟨site.slot, s.core.pc, st, w, site.addr, site.aux, s.time.toNat, 0, s.tileRows tile, s.tileW tile, 0, 0,
    s.f VX_VL 10 0, 0, [], [], [], [], false⟩
  { s with tensor := { s.tensor with jobs := s.tensor.jobs ++ [(f j).plan l] } }

/-- The same for a slot alone; the core's instruction has read what it needs. -/
def State.slotJob (s : State) (site : Site) (st : Nat) (w : Insn) (tile : Nat) (l : List (Nat × Micro)) (f : Job → Job) : State :=
  if site.slot.isNone then s else s.startJob site st w tile l f

/-- The instruction of a job among those whose commit is outstanding. -/
def Job.isMx (j : Job) (o : MxOp) : Bool := decide (o.slot = j.at_) && decide (o.due = j.due)
def State.onMx (s : State) (j : Job) (f : MxOp → MxOp) : State :=
  { s with tensor := { s.tensor with mx := s.tensor.mx.map (fun o => if j.isMx o then f o else o) } }
def State.onVx (s : State) (a : Option SlotAt) (f : VxOp → VxOp) : State :=
  { s with tensor := { s.tensor with vx := s.tensor.vx.map (fun o => if o.slot = a then f o else o) } }

/-! ## Resumption (R188, R189) -/

/-- The start row of a TLD (1), TST (2) or TDRAIN (3). -/
def State.startRow (s : State) (kind t : Nat) (site : Site) : Nat :=
  if site.slot.isNone ∧ s.b TF_START 63 ∧ s.f TF_START 35 32 = kind ∧ s.f TF_START 3 0 = t then s.f TF_START 21 16 else 0

/-- TF_START names the first incomplete row; in a slot it is not written. -/
def State.setStart (s : State) (kind t row : Nat) (site : Site) : State :=
  if site.slot.isSome then s
  else s.wr TF_START (BitVec.ofNat 64 (2 ^ 63 + kind * 2 ^ 32 + (row % 64) * 2 ^ 16 + t))

/-- A fault of TLD (1), TST (2) or TDRAIN (3) in core mode leaves TF_START at the row it would resume from (R188). -/
def Ran.starting (r : Ran) (kind t row : Nat) (site : Site) : Ran :=
  match r with
  | .fault c fa s => .fault c fa (s.setStart kind t row site)
  | x => x

/-- TF_START.VALID is cleared at completion in core mode. -/
def State.clearStart (s : State) (site : Site) : State := if site.slot.isSome then s else s.setB TF_START 63 false

/-- Instructions of the core in flight: matrix array (TMMA and TMMV by their commits, TDRAIN by its parts), vector engine. -/
def State.coreMx (s : State) : List MxOp := s.tensor.mx.filter (fun o => o.slot.isNone)
def State.coreVx (s : State) : List VxOp := s.tensor.vx.filter (fun o => o.slot.isNone)
def State.coreDrains (s : State) : List Job := s.tensor.jobs.filter (fun j => j.at_.isNone && decide (opcode j.w = 0x2A))
def State.inFlight (s : State) : Bool := !(s.coreMx.isEmpty && s.coreVx.isEmpty && s.coreDrains.isEmpty)

/-- An instruction whose commit comes about, or is given up, is no longer outstanding. -/
def State.dropMx (s : State) (op : MxOp) : State :=
  ({ s with tensor := { s.tensor with mx := s.tensor.mx.erase op } } : State).undue .mxCommit [op.due]
def State.dropVx (s : State) (op : VxOp) : State :=
  ({ s with tensor := { s.tensor with vx := s.tensor.vx.erase op } } : State).undue .vxCommit [op.due]

/-- A station is occupied (R76, R115). -/
def State.mxBusy (s : State) : Bool := decide (s.time.toNat < s.tensor.mxBusy)
def State.tfBusy (s : State) : Bool := decide (s.time.toNat < s.tensor.tfBusy)
def State.vxBusy (s : State) : Bool := decide (s.time.toNat < s.tensor.vxBusy)

end Sys2Proof.Machine
end

