-- ==== Sys2Proof/Machine/Matrix.lean ====
section
/-! DEFINITION. The matrix array: TMMA, TMMV, TDRAIN and the commit.
Sections: R101 to R133, R137, R138, R145 to R161. -/

namespace Sys2Proof.Machine

/-! ## TMMA (R117 to R120) -/

def mmAcc (w : Insn) : Nat := fld w 25 22
def mmTA (w : Insn) : Nat := fld w 21 18

/-- Encoding rules of TMMA (R118, R15). -/
def State.tmmaIllegal (s : State) (w : Insn) : Bool :=
  let fmt := fld w 13 11
  decide (opcode w ≠ 0x28) || decide (fmt > 4) || (decide (fmt ≠ 4) && (bit w 10 || bit w 9)) ||
    (bit w 7 && (decide (fmt ≠ 4) || !bit w 10 || !bit w 9 || !s.feature featDray)) || decide (fld w 6 0 ≠ 0)

/-- The effective FP32 pass count; 0 for FP16 (R117). -/
def State.tmmaPasses (s : State) (w : Insn) : Nat :=
  match fld w 13 11 with
  | 0 => 0
  | f => if s.f MX_MODE 4 3 ≠ 0 then s.f MX_MODE 4 3 else f

/-- D of TMMA (R117). -/
def State.tmmaD (s : State) (w : Insn) : Nat :=
  let width := s.tileW (mmTA w)
  if fld w 13 11 = 4 then width / 16 else if s.tmmaPasses w = 3 then 3 * width / 64 else width / 32

/-- The operand slice of cell cycle c (R117, R175): offset and width. -/
def State.tmmaSlice (s : State) (w : Insn) (c : Nat) : Nat × Nat :=
  if fld w 13 11 = 4 then (16 * c, 16) else if s.tmmaPasses w = 3 then (64 * (c / 3), 64) else (32 * c, 32)

/-- Slices are read: a read of the slice held is skipped and counted (R102, R175). -/
def State.readSlices (s : State) (a b : Option SliceId) : State :=
  let hit := fun (x h : Option SliceId) => if x.isSome ∧ x = h then 1 else 0
  let n := hit a s.tensor.sliceA + hit b s.tensor.sliceB
  let s1 : State := { s with tensor := { s.tensor with sliceA := a.orElse (fun _ => s.tensor.sliceA), sliceB := b.orElse (fun _ => s.tensor.sliceB) } }
  if n = 0 then s1 else s1.count TF_CNT_REUSE n

/-- Operand elements as the cells take them, and whether one was flushed (R154). -/
def fpRow (f : Fmt) (ftz : Bool) (bs : List Byte) : List FV × Bool :=
  let l := (elems f.size bs).map (feed f ftz)
  (l.map (·.1), l.any (·.2))

/-- The pending sums of TMMA take up cell cycle c: cells with i < hA and j < hB, an exact check failure, a flush (R101, R114, R119,
R146 to R150). -/
def State.tmmaFeed (s : State) (op : MxOp) (hA hB c : Nat) : MxOp × State :=
  let w := op.w
  let a := mmTA w
  let b := fld w 17 14
  let (o, n) := s.tmmaSlice w c
  let rows := fun (t h : Nat) => (List.range h).map (fun r => s.tileBytes t r o n)
  let cross := fun {β : Type} (as bs : List β) (dot : β → β → PVal → PVal) =>
    ((List.range as.length).zip as).flatMap (fun p =>
      ((List.range bs.length).zip bs).map (fun q => (64 * p.1 + q.1, dot p.2 q.2)))
  let (new, out, fl) : List (Nat × (PVal → PVal)) × Bool × Bool :=
    if op.int then
      let as := (rows a hA).map (fun r => r.map (int8 (bit w 10)))
      let bs := (rows b hB).map (fun r => r.map (int8 (bit w 9)))
      (cross as bs (fun x y p => p.add (intDot x y)),
        bit w 7 && (as ++ bs).any (fun r => r.any (fun z => decide (z < -64) || decide (z > 63))), false)
    else
      let f := if fld w 13 11 = 0 then f16 else f32
      let as := (rows a hA).map (fpRow f s.ftz)
      let bs := (rows b hB).map (fpRow f s.ftz)
      (cross (as.map (·.1)) (bs.map (·.1)) (fun x y p =>
        feedSum (decide (c = 0)) p (cycleGroups (s.tmmaPasses w) s.groupSize c x y)), false, (as ++ bs).any (·.2))
  ({ op with
      sums := op.sums.map (fun p => (p.1, joinSums p.2 new)), slice := op.slice || out, flushed := op.flushed || fl },
    s.readSlices (some ⟨a, o, n⟩) (some ⟨b, o, n⟩))

/-- An instruction whose commit is due is held, and the station occupied for D (R114, R115). -/
def State.mxStart (s : State) (op : MxOp) (d : Nat) : State :=
  let now := s.time.toNat
  let s1 : State := { s with tensor := { s.tensor with mx := s.tensor.mx ++ [{ op with due := now + d + 17 }], mxBusy := now + d } }
  s1.later (d + 17) .mxCommit

/-- TMMA (R117 to R120), up to its commit: its operands are read cell cycle by cell cycle. -/
def State.tmma (s : State) (w : Insn) (site : Site) : Ran :=
  let acc := mmAcc w
  let b := fld w 17 14
  let int := decide (fld w 13 11 = 4)
  let op : MxOp := ⟨w, s.core.pc, 0, site.slot, [(acc, [])], int, bit w 8, false, false⟩
  let d := s.tmmaD w
  if s.tmmaIllegal w then .fault .illegalOp 0 s
  else if site.slot.isNone && s.tmode then .fault .tileBound 0 s
  else if s.tileW (mmTA w) ≠ s.tileW b then s.mxFault w site 1
  else if s.errStore acc then s.mxFault w site 2
  else if !bit w 8 && s.accConflict acc int then s.mxFault w site 3
  else
    .done ((s.mxStart op d).startJob site 0 w (mmTA w) ((List.range d).map (fun c => (4 + c, .cell c)))
      (fun j => { j with due := s.time.toNat + d + 17, h2 := s.tileRows b }))

/-! ## TMMV (R121 to R126) -/

def mvB (w : Insn) : Nat := fld w 17 16 + 1
def mvInt (w : Insn) : Bool := decide (fld w 15 13 = 4)

/-- Encoding rules of TMMV (R126). -/
def State.tmmvIllegal (s : State) (w : Insn) : Bool :=
  let fmt := fld w 15 13
  decide (opcode w ≠ 0x29) || (decide (fmt ≠ 0) && decide (fmt ≠ 4)) || (decide (fmt = 0) && (bit w 12 || bit w 11)) ||
    !s.feature featExpress

/-- The beat interval (R125). -/
def mvR (w : Insn) : Nat := if mvInt w && decide (3 ≤ mvB w) then 2 else 1

/-- The accumulators of a batch (R124). -/
def State.mvAccs (s : State) (w : Insn) : List Nat :=
  let stride := if s.sumMode (mmAcc w) = 1 then 2 else 1
  (List.range (mvB w)).map (fun v => mmAcc w + v * stride)

/-- Beat b: the lines at bank-local offset l + 64b of the banks of carriages f to f + n (R121, R122). -/
def State.mvBeat (s : State) (l f n b : Nat) : List Byte × State :=
  (List.range (8 * (n + 1))).foldl (fun (p : List Byte × State) q =>
    let (bs, t) := p.2.yRead ((8 * f + q) * bankBytes + l + 64 * b) 64
    (p.1 ++ bs, t)) ([], s)

/-- The pending sums of TMMV take up cell cycle c, in which beat ⌊c / r⌋ is used (R124, R125). -/
def State.mvFeed (s : State) (op : MxOp) (f n c : Nat) (beat : List Byte) : MxOp × State :=
  let w := op.w
  let a := mmTA w
  let r := mvR w
  let o := 8 * (c / r)
  let xs := (List.range (mvB w)).map (fun v => s.tileBytes a v o 8)
  let serves := fun (v : Nat) => decide (r = 1) || decide (v / 2 = c % 2)
  let ws := (List.range (n + 1)).flatMap (fun i => (List.range 64).map (fun j =>
    (64 * (f + i) + j, (beat.drop ((8 * i + j / 8) * 64 + 8 * (j % 8))).take 8)))
  let dots : List (List (Nat × (PVal → PVal))) :=
    if op.int then
      xs.map (fun x => ws.map (fun q => (q.1, fun p => p.add (intDot (q.2.map (int8 (bit w 11))) (x.map (int8 (bit w 12)))))))
    else
      xs.map (fun x => ws.map (fun q => (q.1, fun p =>
        feedSum (decide (c = 0)) p (cycleGroups 0 4 c (fpRow f16 s.ftz q.2).1 (fpRow f16 s.ftz x).1))))
  let fl := !op.int && ((xs.any (fun x => (fpRow f16 s.ftz x).2)) || ws.any (fun q => (fpRow f16 s.ftz q.2).2))
  ({ op with
      sums := ((List.range (mvB w)).zip (op.sums.zip dots)).map (fun p =>
        if serves p.1 then (p.2.1.1, joinSums p.2.1.2 p.2.2) else p.2.1),
      flushed := op.flushed || fl },
    s.readSlices (some ⟨a, o, 8⟩) none)

/-- TMMV (R121 to R126), up to its commit. -/
def State.tmmv (s : State) (w : Insn) (site : Site) : Ran :=
  let a := mmTA w
  let l := site.addr.toNat
  let f := fld site.aux 5 0
  let n := fld site.aux 13 8
  let beats := s.tileW a / 8
  let r := mvR w
  let accs := s.mvAccs w
  let int := mvInt w
  let op : MxOp := ⟨w, s.core.pc, 0, site.slot, accs.map (fun x => (x, [])), int, bit w 10, false, false⟩
  let groups := (List.range (min (4 * (f + n) + 3) 255 + 1 - 4 * f)).map (· + 4 * f)
  let may := fun g => if site.slot.isSome then ttReads (s.f (YD_OWNER g) 2 0) else coreOnly (s.f (YD_OWNER g) 2 0)
  if s.tmmvIllegal w then .fault .illegalOp 0 s
  else if site.slot.isNone && decide (s.priv = 0) then .fault .priv 0 s
  else if site.slot.isNone && s.tmode then .fault .tileBound 0 s
  else if l % 64 ≠ 0 then .fault .align site.addr (s.mxGivenUp site)
  else if !groups.all may then let (x, s1) := s.free; .fault .yardOwner x (s1.mxGivenUp site)
  else if s.tileRows a < mvB w then s.mxFault w site 4
  else if 63 < f + n ∨ bankBytes < l + 64 * beats then s.mxFault w site 8
  else if accs.any (fun x => decide (15 < x)) || accs.any (fun x => decide (s.sumMode x ≠ s.sumMode (mmAcc w))) then
    s.mxFault w site 7
  else if accs.any s.errStore then s.mxFault w site 2
  else if !bit w 10 && accs.any (fun x => s.accConflict x int) then s.mxFault w site 3
  else
    .done ((s.mxStart op (r * beats)).startJob site 0 w a
      ((List.range beats).map (fun b => (2 + r * b, .beat b)) ++ (List.range (r * beats)).map (fun c => (4 + c, .cell c)))
      (fun j => { j with due := s.time.toNat + r * beats + 17 }))

/-! ## TDRAIN (R127 to R133) -/

/-- Encoding rules of TDRAIN (R127). -/
def tdrainIllegal (w : Insn) : Bool :=
  let o := fld w 17 15
  decide (opcode w ≠ 0x2A) || decide (o > 4) || (decide (o ≠ 2) && (bit w 14 || bit w 13)) || (bit w 12 && decide (o > 2)) ||
    bit w 7 || (!bit w 12 && decide (fld w 11 7 ≠ 0)) || decide (fld w 6 0 ≠ 0)

/-- Bytes per row of the destination (R128). -/
def drainRowBytes (o : Nat) : Nat :=
  match o with
  | 0 => 256
  | 1 => 128
  | 2 => 64
  | 3 => 256
  | _ => 512

/-- y of R130: the scaled value as an FP32 pattern, and whether it saturated. An infinite accumulator times a zero scale gives NaN (DESIGN
CHOICE, log 50: R130 and R156 give no value). -/
def drainY (int : Bool) (v sc : Nat) : Nat × Bool :=
  let x : FV := if int then .fin (decide (int32 v < 0)) (int32 v).natAbs 0 else f32.dec v
  match x.mul (f32.dec sc) with
  | .nan _ => (f32.qnan, false)
  | .inf n => if x.isFin then (f32.maxBits n, true) else (f32.infBits n, false)
  | .fin n m e => f32.roundSat n m e

/-- What one element drains to: bytes, y, saturated, flushed, NaN (R130, R154 to R157). -/
structure Drained where
  out   : List Byte
  y     : Nat
  sat   : Bool
  flush : Bool
  nan   : Bool
deriving DecidableEq, Repr

/-- INT8 output of y (R130, R155). -/
def drainInt8 (so wrap : Bool) (y : Nat) : Nat × Bool :=
  let lo : Int := if so then -128 else 0
  let hi : Int := if so then 127 else 255
  match f32.dec y with
  | .nan _ => (0, false)
  | .inf n => ((((if n then lo else hi) % 256)).toNat, false)
  | .fin n m e =>
    let k := signed n (roundInt m e).1
    if wrap then ((k % 256).toNat, false)
    else
      let c := min (max k lo) hi
      ((c % 256).toNat, decide (c ≠ k))

/-- One element of a drain (R130). Of a drain of FP32 pairs, only a NaN of the accumulator counts as a NaN output, not one of its error
store (DESIGN CHOICE, log 50: R130, R137 and R156 do not say). -/
def drainElem (w : Insn) (ftz int : Bool) (v err sc : Nat) : Drained :=
  match fld w 17 15 with
  | 4 =>
    let nan := (f32.dec v).isNan
    ⟨toBytes 4 (if nan then f32.qnan else f32.plusZero v) ++ toBytes 4 (if (f32.dec err).isNan then f32.qnan else f32.plusZero err),
      v, false, false, nan⟩
  | 3 => ⟨toBytes 4 v, v, false, false, false⟩
  | o =>
    let (y, sat) := drainY int v sc
    let nan := (f32.dec y).isNan
    match o with
    | 0 =>
      let fl := ftz && f32.isSub y
      ⟨toBytes 4 (if fl then 0 else f32.plusZero y), y, sat, fl, nan⟩
    | 1 =>
      let (h, hs) := match f32.dec y with
        | .nan _ => (f16.qnan, false)
        | .inf n => (f16.infBits n, false)
        | .fin n m e => f16.roundSat n m e
      let fl := ftz && f16.isSub h
      ⟨toBytes 2 (if fl then 0 else f16.plusZero h), y, sat || hs, fl, nan⟩
    | _ =>
      let (b, bs) := drainInt8 (bit w 14) (bit w 13) y
      ⟨toBytes 1 b, y, sat || bs, false, nan⟩

/-- One addition of the statistics sum (R161): a finite overflow gives the largest finite value and saturates. -/
def statAdd (a b : Nat × Bool) : Nat × Bool :=
  match f32.dec a.1, f32.dec b.1 with
  | .fin n1 m1 e1, .fin n2 m2 e2 =>
    match (FV.fin n1 m1 e1).add (.fin n2 m2 e2) with
    | .fin n m e => let (r, sat) := f32.roundSat n m e; (r, a.2 || b.2 || sat)
    | _ => (f32.qnan, false)
  | _, _ => ((f32.fadd a.1 b.1).1, a.2 || b.2)

/-- One level of a pairwise tree. -/
def pairUp {β : Type} (f : β → β → β) : List β → List β
  | a :: b :: t => f a b :: pairUp f t
  | l => l
/-- The levels of a pairwise tree. -/
def tree {β : Type} (f : β → β → β) : Nat → List β → List β
  | 0, l => l
  | n + 1, l => tree f n (pairUp f l)

/-- The maximum of a row's y (R131): NaN if any is. -/
def statMax (ys : List Nat) : Nat :=
  match ys with
  | [] => 0
  | y :: t => t.foldl (fun a b => (f32.fmax a b).1) y

/-- A row of an accumulator drained (R130, R131, R156, R161). -/
def State.drainRow (s : State) (w : Insn) (sc r : Nat) : DrainRow :=
  let a := mmAcc w
  let used := s.accUsed a
  let int := used && s.accInt a
  let cells := (List.range 64).map (fun j =>
    let v := if used then s.accCell a (64 * r + j) else 0
    let e := if used then s.accCell (a + 1) (64 * r + j) else 0
    drainElem w s.ftz int v e sc)
  let ys := cells.map (·.y)
  let stats := bit w 12
  let mx := statMax ys
  let (sum, ssat) := (tree statAdd 6 (ys.map (fun y => (y, false)))).headD (0, false)
  let stat := fun (x : Nat) =>
    if (f32.dec x).isNan then (f32.qnan, false)
    else if s.ftz && f32.isSub x then (0, true) else (f32.plusZero x, false)
  let (mo, mf) := stat mx
  let (so, sf) := stat sum
  let cnan := findBelow 64 (fun j => (cells[j]?.map (·.nan)).getD false)
  let nan := match cnan with
    | some j => some j
    | none => if stats && ((f32.dec mx).isNan || (f32.dec sum).isNan) then some 63 else none
  ⟨cells.flatMap (·.out), mo, so, cells.any (·.sat) || (stats && ssat), cells.any (·.flush) || (stats && (mf || sf)), nan⟩

/-- A row group is written to the tile with its statistics and flags (R131, R132, R154). -/
def State.drainWrite (s : State) (w : Insn) (rows : List (Nat × DrainRow)) : State :=
  let t := fld w 21 18
  let vd := fld w 11 7
  let s1 := rows.foldl (fun u p =>
    let u1 := u.tileWrite t p.1 p.2.bytes
    if bit w 12 then (u1.vWrite vd (4 * p.1) (toBytes 4 p.2.mx)).vWrite (vd + 1) (4 * p.1) (toBytes 4 p.2.sum) else u1) s
  let s2 := if rows.any (fun p => p.2.sat) then s1.setB MX_FLAGS 2 true else s1
  if rows.any (fun p => p.2.flush) then s2.setB MX_FLAGS 0 true else s2

/-- The first NaN cell of drained rows. -/
def firstNanOf (g : List (Nat × DrainRow)) : Option (Nat × Nat) :=
  (g.find? (fun p => p.2.nan.isSome)).map (fun p => (p.1, p.2.nan.getD 0))

/-- The rows of an instruction in core mode that an abandonment leaves incomplete (R188): from the group of row `cut` on. -/
def cutRow (start h : Nat) (cut : Option (BitVec 7)) : Nat :=
  match cut with
  | none => h
  | some c => min h (start + (c.toNat - start) / 16 * 16)

/-- The rows of group g of a drain of rows `first` to h − 1 (R132, R189). -/
def groupRows (first h g : Nat) : List Nat := (List.range (min 16 (h - (first + 16 * g)))).map (· + (first + 16 * g))

/-- TDRAIN (R127 to R133): its groups are read and written at their cycles. -/
def State.tdrain (s : State) (w : Insn) (site : Site) : Ran :=
  let a := mmAcc w
  let t := fld w 21 18
  let o := fld w 17 15
  let h := s.tileRows t
  let start := s.startRow 3 t site
  let bad := fun (reason : Nat) => s.mxFault w site reason |>.starting 3 t start site
  if tdrainIllegal w then .fault .illegalOp 0 s
  else if site.slot.isNone && s.tmode then .fault .tileBound 0 s
  else if s.errStore a then bad 2
  else if s.tileW t ≠ drainRowBytes o then bad 5
  else if (o = 3 ∧ s.accUsed a ∧ !s.accInt a) ∨ (o = 4 ∧ (s.sumMode a ≠ 1 ∨ (s.accUsed a ∧ s.accInt a))) then bad 6
  else if h ≤ start then .done ((s.clearStart site).count MX_CNT_DONE 1)
  else
    let d := cdiv (h - start) 16
    let busy : State := { s with tensor := { s.tensor with mxBusy := s.time.toNat + d } }
    .done (busy.startJob site 0 w t ((List.range d).flatMap (fun g => [(18 + g, .groupRead g), (23 + g, .groupWrite g)]))
      (fun j => { j with conv := BitVec.ofNat 64 (s.f (MX_ACCSCALE a) 31 0), row := start }))

/-- Group g of a drain as it is read (R114, R130). -/
def State.groupIn (s : State) (j : Job) (g : Nat) : Job :=
  { j with rows := j.rows ++ (groupRows j.row j.h g).map (fun r => (r, s.drainRow j.w j.conv.toNat r)) }

/-- Whether a further group is to be written. -/
def Job.writesMore (j : Job) : Bool := j.todo.any (fun q => match q.2 with | .groupWrite _ => true | _ => false)

/-- A group of a drain is written (R131, R132); in a slot the operation's first NaN is reported (R98), in core mode a NaN traps
precisely before its group is written (R133, R137): the state with the trap's record, then. The last write completes it. -/
def State.groupOut (s : State) (j : Job) (g : Nat) : Option State × Job × State :=
  let mine := groupRows j.row j.h g
  let rows := j.rows.filter (fun p => mine.contains p.1)
  let j1 := { j with rows := j.rows.filter (fun p => !mine.contains p.1), nan := j.nan || (firstNanOf rows).isSome }
  let t := fld j.w 21 18
  let fin := fun (u : State) => if j.writesMore then u else (u.clearStart j.site).count MX_CNT_DONE 1
  match j.at_, firstNanOf rows with
  | none, some (r, c) =>
    if s.b MX_NANINFO 63 then (none, j1, fin (s.drainWrite j.w rows))
    else (some ((s.nanTrap 2 (mmAcc j.w) r c j.pc).setStart 3 t (mine.headD 0) j.site), j, s)
  | some a, some (r, c) =>
    let u := s.drainWrite j.w rows
    (none, j1, fin (if j.nan then u else u.nanEvent a.idx.toNat (mmAcc j.w) r c))
  | _, none => (none, j1, fin (s.drainWrite j.w rows))

/-- The operands of a core-mode tensor instruction, from its registers ga [4:0] and gb or gs [9:5] (R123, R181). -/
def State.coreSite (s : State) (w : Insn) : Site := ⟨none, s.g (fld w 4 0), s.g (fld w 9 5)⟩

end Sys2Proof.Machine
end

