-- ==== Sys2Proof/Machine/CoreOps.lean ====
section
/-! DEFINITION. The scalar core's shared operations: interrupt sources and eligibility, taking an exception and the return from
one, the abandonment of what is in flight, caches and store buffer, spans and the walker.
Sections: R326 to R333, R337 to R341, R349 to R366, R369 to R384. -/

namespace Sys2Proof.Machine

/-! ## Interrupt sources (R352 to R356) -/

/-- A channel's HALF, DONE or ERR is set (R278, R295). -/
def State.chanEvent (s : State) (c : Nat) : Bool := s.f (WB_CH_STATUS c) 34 32 ≠ 0
/-- A channel that interrupts the core: scheduled, or with the core as client (R355). -/
def State.chanOfCore (s : State) (c : Nat) : Bool := decide (c < 16) || decide (s.f (WB_CH_CFG c) 1 0 = 0)
/-- The channels behind cause 0x2A. -/
def State.wbIrqs (s : State) : List Nat := (List.range 56).filter (fun c => s.chanEvent c && s.chanOfCore c)

/-- The condition of an interrupt cause (R355). -/
def State.irqPending (s : State) (c : Nat) : Bool :=
  if c = 0x19 then s.b SC_LBE_INFO 63
  else if 0x21 ≤ c ∧ c ≤ 0x27 then s.b HN_GUARD_STATUS (c - 0x20)
  else if c = 0x28 then s.b SC_IPEND 40
  else if c = 0x29 then s.b SC_IPEND 41
  else if c = 0x2A then !s.wbIrqs.isEmpty
  else if c = 0x2B then s.b YD_ECC_UE 63
  else if c = 0x2C then decide (s.f YD_CTR_FLAGS 1 0 ≠ 0)
  else if c = 0x2D then s.b SC_IPEND 45
  else if c = 0x2E then decide ((s.rd SC_TCMP).toNat ≤ s.time.toNat)
  else false

/-- The level of an interrupt cause (R356). -/
def State.irqLevel (s : State) (c : Nat) : Nat :=
  if c = 0x19 then 14
  else if 0x21 ≤ c ∧ c ≤ 0x27 then s.f HN_GUARD_IRQ (4 * (c - 0x20) + 3) (4 * (c - 0x20))
  else if c = 0x28 ∨ c = 0x29 then 15
  else if c = 0x2A then s.wbIrqs.foldl (fun m c => max m (s.f (WB_CH_CFG c) 11 8)) 0
  else if c = 0x2B then s.f YD_IRQ 7 4
  else if c = 0x2C then s.f YD_IRQ 3 0
  else if c = 0x2D then s.f SC_IRQLEVEL 7 4
  else if c = 0x2E then s.f SC_IRQLEVEL 3 0
  else 0

/-- Routed to M (R352). -/
def State.irqToM (s : State) (c : Nat) : Bool := c = 0x28 || c = 0x29 || s.b SC_ROUTE c

/-- An interrupt is eligible (R352). -/
def State.eligible (s : State) (c : Nat) : Bool :=
  let l := s.irqLevel c
  s.irqPending c && decide (l ≠ 0) &&
    (if s.irqToM c then decide (s.f SC_MASK_M 3 0 < l) || (decide (l = 15) && !s.b SC_STATUS 2)
     else decide (s.priv ≤ 1) && (decide (s.f SC_MASK_S 3 0 < l) || decide (l = 15)))

/-- The interrupt causes, in order. -/
def irqCauses : List Nat := [0x19, 0x21, 0x22, 0x23, 0x24, 0x25, 0x26, 0x27, 0x28, 0x29, 0x2A, 0x2B, 0x2C, 0x2D, 0x2E]

/-- The order of R353: higher level, then routed to M, then lower cause code. -/
def State.irqRank (s : State) (c : Nat) : Nat := s.irqLevel c * 256 + (if s.irqToM c then 128 else 0) + (64 - c)

/-- The interrupt the core takes (R353). -/
def State.chosenIrq (s : State) : Option Nat :=
  (irqCauses.filter s.eligible).foldl
    (fun best c => match best with
      | none => some c
      | some b => if s.irqRank b < s.irqRank c then some c else some b) none

/-! ## Abandonment -/

/-- The groups of a drain written before the abandonment point; one with a NaN that would trap is left (R134). -/
def drainUpTo (now : Nat) : List (Nat × Micro) → Job → State → Job × State
  | (t, .groupWrite g) :: r, j, s =>
    if t ≤ now + 1 then
      match s.groupOut { j with todo := r } g with
      | (none, j1, s1) => drainUpTo now r j1 s1
      | (some _, _, _) => (j, s)
    else (j, s)
  | _ :: r, j, s => drainUpTo now r { j with todo := r } s
  | [], j, s => ({ j with todo := [] }, s)

/-- A drain of the core at an abandonment point (R134): the first row not written, if any is not. -/
def State.drainStop (s : State) (j : Job) : Option Nat × State :=
  let (j1, s1) := drainUpTo s.time.toNat j.todo j s
  match j1.todo.filterMap (fun q => match q.2 with | .groupWrite g => some g | _ => none) with
  | [] => (none, s1)
  | g :: _ =>
    let row := (groupRows j.row j.h g).headD 0
    (some row, s1.setStart 3 (fld j.w 21 18) row j.site)

/-- An instruction given up at an abandonment point: what orders it among the others, its pc, its word. -/
abbrev GivenUp := Nat × Word × Insn

/-- A matrix or vector instruction of the core at an abandonment point completes if its commit falls before it, and no older one was
given up (R134, R217); one whose commit would trap is given up (R353). -/
def State.mxStop (p : List GivenUp × State) (op : MxOp) : List GivenUp × State :=
  let s := p.2.dropMx op
  let gone : List GivenUp × State := (p.1 ++ [(2 * op.due, op.pc, op.w)], s.count MX_CNT_ABANDON 1)
  if p.1.isEmpty ∧ op.due ≤ s.time.toNat then
    match s.commitOp op with
    | (none, t) => (p.1, t)
    | (some _, _) => gone
  else gone

def State.vxStop (p : List GivenUp × State) (op : VxOp) : List GivenUp × State :=
  let s := p.2.dropVx op
  if p.1.isEmpty ∧ op.due ≤ s.time.toNat then (p.1, s.vxApply op)
  else (p.1 ++ [(2 * op.due, op.pc, op.w)], s.count VX_CNT_ABANDON 1)

def State.drainGone (p : List GivenUp × State) (j : Job) : List GivenUp × State :=
  match p.2.drainStop j with
  | (none, t) => (p.1, t)
  | (some _, t) => (p.1 ++ [(2 * (j.t + 17) + 1, j.pc, j.w)], t.count MX_CNT_ABANDON 1)

/-- In program order. -/
def inProgram (l : List GivenUp) : List GivenUp :=
  l.foldl (fun m p => m.filter (fun q => decide (q.1 ≤ p.1)) ++ [p] ++ m.filter (fun q => decide (p.1 < q.1))) []

/-- The matrix instructions of the core at an abandonment point, the ACLK after this one: those given up are counted, a drain keeps the
groups it has written (R134, R135). -/
def State.giveUpMx (s : State) : List GivenUp × State :=
  let (l, t) := s.coreDrains.foldl State.drainGone (s.coreMx.foldl State.mxStop ([], s))
  (inProgram l, { t with tensor := { t.tensor with jobs := t.tensor.jobs.filter (fun j => j.at_.isSome) } })

/-- All tensor instructions of the core at an abandonment point (R134, R217); what waits behind them is given up with them (R322). -/
def State.giveUp (s : State) : List GivenUp × State :=
  let (l, t) := s.giveUpMx
  let (l1, u) := t.coreVx.foldl State.vxStop (l, t)
  (l1, { u with core := { u.core with younger := [], going := false } })

/-- The core abandons what is in flight: the pc of the oldest, and the state (R134). -/
def State.abandonTensor (s : State) : Option Word × State := let (l, t) := s.giveUp; (l.head?.map (·.2.1), t)

/-- The core's waiting instruction is abandoned: its slot is freed, its queued request withdrawn (R249). -/
def State.abandonWait (s : State) : State :=
  let s1 : State := { s with core := { s.core with wait := none } }
  let s2 : State := { s1 with yard := { s1.yard with tail := s1.yard.tail.filter (fun p => decide (p.2 ≠ .core)) } }
  s2.leaveAll idCore

/-- A burst with nothing out and nothing left to move is over. -/
def Burst.over (b : Burst) : Bool := b.reads.isEmpty && b.writes.isEmpty && (!b.live || decide (b.put = b.len))
/-- Its writes have begun. -/
def Burst.begun (b : Burst) : Bool := decide (0 < b.put)

/-- A transfer ends with a code unless it has ended before (R292, R293): it waits for nothing any more, the bursts that `keep` does not
name move no further, and what they have out is collected. -/
def Desc.finish (d : Desc) (e : Nat × Nat × Nat × Nat) (keep : Burst → Bool) : Desc :=
  { d with ended := d.ended.orElse (fun _ => some e), gated := false,
           bursts := (d.bursts.map (fun b => { b with live := b.live && keep b })).filter (fun b => !b.over) }

/-- A descriptor is to end as aborted: the one burst whose writes have begun is finished (R292). -/
def Desc.abort (d : Desc) : Desc := d.finish (1, 0, 0, 0) Burst.begun

/-- An abort of a channel is requested (R292): it concerns the descriptors it holds now. -/
def State.abortChan (s : State) (c : Nat) : State :=
  match s.wb.ch.toList[c]? with
  | none => s
  | some h =>
    if h.active.isNone ∧ h.shadow.isNone then s
    else
      let h' : Chan := ⟨h.active.map Desc.abort, h.shadow.map Desc.abort, true⟩
      let s1 : State := { s with wb := { s.wb with ch := s.wb.ch.setIfInBounds c h' } }
      (s1.setB (WB_CH_CTRL c) 0 true).leaveAll (idChan c)

/-- A core-only reset starts (R438): the core stops, its tensor instructions are abandoned, its waiting-room slots freed, the
transfers on its channels aborted. -/
def State.startCoreReset (s : State) (seq : Option (BitVec 16)) : State :=
  let s1 := (s.abandonTensor).2.abandonWait
  let s2 : State := { s1 with core := { s1.core with run := .resetting, resetSeq := seq } }
  ((List.range 40).map (· + 16)).foldl (fun t c => if t.f (WB_CH_CFG c) 1 0 = 0 then t.abortChan c else t) s2

/-- A double-fault reset (R360): SC_RSTINFO records both causes, and the Coachman reports it. -/
def State.dfReset (s : State) (first second : Nat) : State :=
  let info : Word := BitVec.ofNat 64 (2 ^ 63 + (first % 256) * 256 + second % 256)
  (((s.wrSet SC_RSTINFO info).setB HL_ALERT 3 true).unsolicited 0x8003 info 0 0).startCoreReset none

/-! ## Taking an exception (R351, R359 to R364) -/

/-- What enters a handler: cause, fault address, whether it is an interrupt, the returned pc, the faulting word. -/
structure Event where
  cause : Nat
  fa    : Word
  async : Bool
  pc    : Word
  insn  : Insn
deriving DecidableEq, Repr

/-- A frame address is usable (R361): 512 bytes in the own package's DRAM, or in a core-owned group of the own Yard. -/
def State.frameOk (s : State) (a : Nat) : Bool :=
  match s.place a, s.place (a + 511) with
  | .dram, .dram => true
  | .yard o, .yard _ => s.owned coreOnly o 512
  | _, _ => false

/-- The stored SC_STATUS with SAVING (R363). -/
def State.scStatus (s : State) : Word := setBit (s.rd SC_STATUS) 3 (!s.core.saves.isEmpty)

/-- SC_ORIGIN, SC_MASK and the vector store of level x (1 S, 2 M). -/
def orgReg (x : Nat) : Nat := if x = 1 then SC_ORIGIN_S else SC_ORIGIN_M
def maskReg (x : Nat) : Nat := if x = 1 then SC_MASK_S else SC_MASK_M
def State.handler (s : State) (x cause : Nat) : Word :=
  match (if x = 1 then s.core.entryS else s.core.entryM)[cause]? with
  | some p => p.1
  | none => 0

/-- The 64 words of a frame (R362). -/
def State.frame (s : State) (e : Event) (cause orig detail mask origin prev : Nat) : List Word :=
  [e.pc, s.scStatus,
   BitVec.ofNat 64 (cause + orig * 2 ^ 8 + detail * 2 ^ 16 + (if e.async then 2 ^ 63 else 0)),
   e.fa, BitVec.ofNat 64 mask, BitVec.ofNat 64 (origin + prev * 2 ^ 32), s.rd TF_START,
   BitVec.ofNat 64 e.insn.toNat] ++ (List.range 32).map s.g ++ List.replicate 24 0

/-- Entry to level lvl (1 S, 2 M) with its frame at a, tagged x (3 for the double-fault frame) (R359, R364). -/
def State.enterAt (s : State) (lvl x a : Nat) (e : Event) (cause orig detail : Nat) : State :=
  let seq := s.f SC_SEQ 29 0
  let origin := x * 2 ^ 30 + seq
  let (fr, s0) := if x = 3 then s.free else (s.rd (orgReg x), s)
  let words := s0.frame e cause orig detail (s0.f (maskReg lvl) 3 0) origin (fld fr 31 0)
  let s1 := (s0.setF SC_SEQ 29 0 (seq + 1)).setF (maskReg lvl) 3 0 15
  let s2 := if x = 3 then s1.setB SC_STATUS 2 true else s1.setF (orgReg x) 31 0 origin
  let s3 := if lvl = 1 then s2.setF SC_TSB_S 55 0 (a + 512) else s2
  let s4 := s3.setF SC_STATUS 1 0 lvl
  { s4 with core := { s4.core with
      saves := s4.core.saves ++ [(a, words)], pc := s4.handler lvl cause, run := .run,
      dfCause := if x = 3 then BitVec.ofNat 8 e.cause else s4.core.dfCause } }

/-- Entry through the double-fault frame (R360), or the core-only reset while DF is 1 or the frame is unusable (R361). -/
def State.enterDF (s : State) (e : Event) (cause detail : Nat) : State :=
  let a := s.f SC_TSB_DF 55 0
  if s.b SC_STATUS 2 then s.dfReset s.core.dfCause.toNat e.cause
  else if !s.frameOk a then
    let (fr, s1) := s.free
    s1.dfReset (fld fr 7 0) e.cause
  else s.enterAt 2 3 a e cause (if cause = 0x1F then e.cause else 0) detail

/-- Entry to M with a cause (R359, R361). -/
def State.enterM (s : State) (e : Event) (cause orig detail : Nat) : State :=
  if s.priv = 2 ∧ s.f SC_MASK_M 3 0 = 15 then s.enterDF e (if e.async then cause else 0x1F) 0
  else
    let a := s.f SC_TSB_M 55 0
    if s.frameOk a then s.enterAt 2 2 a e cause orig detail
    else s.enterDF e 0x1F 1

/-- Entry to S (R359, R361). -/
def State.enterS (s : State) (e : Event) : State :=
  let a := s.f SC_TSB_S 55 0
  if a < s.f SC_TSB_BASE_S 55 0 ∨ s.f SC_TSB_LIMIT_S 55 0 < a + 512 ∨ !s.frameOk a then s.enterM e 0x1C e.cause 1
  else s.enterAt 1 1 a e e.cause 0 0

/-- A synchronous fault is taken (R351): the level it targets, escalation, double fault. -/
def State.syncFault (s : State) (c : Cause) (fa : Word) (pc : Word) (w : Insn) : State :=
  let e : Event := ⟨causeCode c, fa, false, pc, w⟩
  if s.b SC_STATUS 2 then s.dfReset s.core.dfCause.toNat e.cause
  else if s.priv = 0 then s.enterS e
  else if s.priv = 1 ∧ c ≠ .service then
    if s.f SC_MASK_S 3 0 = 15 then s.enterM e 0x1D e.cause 0 else s.enterS e
  else s.enterM e e.cause 0 0

/-- nw of a tag instruction; 0x31 has none and never fails. -/
def tagNw (w : Insn) : Bool := opcode w = 0x30 && fNw w

/-- The core's request that waits in a tailboard queue at recognition (R338): it is served; if its condition is met, or if it only asks
(nw), it counts as retired, its results (by general register) going to the frame, and otherwise it is abandoned. So it is where the
bank refuses it or its word cannot be read (R38, R236): the fault comes as it executes again. -/
def State.queuedAtIrq (s : State) : List (Nat × Word) × Bool × State :=
  match s.core.wait with
  | some ⟨w, .queued o, _, _⟩ =>
    if ownCoach ≤ s.owner o then ([], false, s)
    else if inSet o s.yard.bad then ([], false, s.noteUE o)
    else
      let (ok, v, s1) := s.tagged o (tagOpOf w (s.g (fGd w))) idCore
      let st := fun (x : Word) => if tagNw w then [(fGs w, x)] else []
      if ok then ((if tagGives w then [(fGd w, v)] else []) ++ st 1, true, s1)
      else if tagNw w then (st 0, true, s1.count YD_NWFAIL_CNT 1)
      else ([], false, s)
  | _ => ([], false, s)

/-- The register slots of the newest frame receive background results (R338). -/
def State.fillGd (s : State) (l : List (Nat × Word)) : State :=
  l.foldl (fun t p =>
    if p.1 = 0 then t
    else
      match t.core.saves.reverse with
      | [] => t
      | (a, ws) :: r => { t with core := { t.core with saves := (((a, ws.set (8 + p.1) p.2) :: r)).reverse } }) s

/-- An interrupt is recognised and its handler entered (R337 to R340, R352): everything in flight is abandoned, the returned pc
is that of the oldest abandoned instruction. -/
def State.takeIrq (s : State) (c : Nat) : State :=
  let (res, done, s0) := s.queuedAtIrq
  let (tpc, s1) := s0.abandonTensor
  let s2 := s1.abandonWait
  let pc := match tpc with
    | some p => p
    | none => if done then s2.core.pc + 4 else s2.core.pc
  let fa : Word := if c = 0x19 then s2.rd SC_LBE_ADDR else 0
  let e : Event := ⟨c, fa, true, pc, 0⟩
  let s3 := if s2.irqToM c then s2.enterM e c 0 0 else s2.enterS e
  if s3.core.run = .run then s3.fillGd res else s3

/-! ## Late bus errors, memory outside -/

/-- A LATE_BUS_ERROR is recorded (R358). -/
def State.lbe (s : State) (a entry : Nat) : State :=
  if s.b SC_LBE_INFO 63 then s.setB SC_LBE_INFO 62 true
  else ((s.wr SC_LBE_ADDR (BitVec.ofNat 64 (a % 2 ^ 56))).setF SC_LBE_INFO 4 0 entry).setB SC_LBE_INFO 63 true

/-- A store-buffer entry number, which the manual assigns to no entry in particular (log 7). -/
def State.sbNumber (s : State) : Nat × State := let (w, s1) := s.free; (fld w 3 0, s1)

/-! ## Caches (R327 to R332) -/

/-- L1 replacement (R327): least recently used within 4 ways of 256 sets; the lowest way that holds nothing is filled first
(PRESUMED, log 16). -/
def lruPut (line : Nat) (d : Line) (l : List (Nat × Nat × Line)) : List (Nat × Nat × Line) :=
  let same := l.filter (fun p => decide (p.1 % 256 = line % 256))
  match same.find? (fun p => decide (p.1 = line)) with
  | some p => (line, p.2.1, d) :: l.filter (fun q => decide (q.1 ≠ line))
  | none =>
    match findBelow 4 (fun w => !(same.any (fun p => decide (p.2.1 = w)))), same.getLast? with
    | some w, _ => (line, w, d) :: l
    | none, some v => (line, v.2.1, d) :: l.filter (fun q => decide (q.1 ≠ v.1))
    | none, none => l

/-- The copies of a line in both L1 caches are invalidated (R327). -/
def State.l1Drop (s : State) (line : Nat) : State :=
  { s with core := { s.core with
      l1d := s.core.l1d.filter (fun p => decide (p.1 ≠ line)), l1i := s.core.l1i.filter (fun p => decide (p.1 ≠ line)) } }

/-- The L1D copy of a line is changed. -/
def State.l1dMap (s : State) (line : Nat) (upd : Line → Line) : State :=
  { s with core := { s.core with l1d := s.core.l1d.map (fun p => if p.1 = line then (p.1, p.2.1, upd p.2.2) else p) } }

/-- An L2 line that is present. -/
def State.l2Find (s : State) (line : Nat) : Option L2Line :=
  s.core.l2.find? (fun x => decide (x.set = line % 2048) && decide (x.tag = line / 2048))
def L2Line.line (x : L2Line) : Nat := x.tag * 2048 + x.set

/-- The L2 with one way replaced or emptied. -/
def State.l2Set (s : State) (set way : Nat) (x : Option L2Line) : State :=
  { s with core := { s.core with
      l2 := s.core.l2.filter (fun y => !(decide (y.set = set) && decide (y.way = way))) ++ x.toList } }

/-- One step of the victim LFSR (R331). -/
def lfsrStep (x : BitVec 16) : BitVec 16 :=
  let fb := (bit x 15 != bit x 13) != (bit x 12 != bit x 10)
  BitVec.ofNat 16 (2 * x.toNat + (if fb then 1 else 0))

/-- The bytes of a line leave for memory in the CTL class (R330): the lowest byte with an error response. -/
def State.writeOut (s : State) (line : Nat) (bs : List Byte) (o : Outside) : Option Nat × State :=
  match o.wrBad (line * 64) 64 with
  | some a => (some a, s.send (.fabWrite .ctl (line * 64) bs))
  | none => (none, s.send (.fabWrite .ctl (line * 64) bs))

/-- HL_ERR_CORE counts (R444); its threshold sets NOSPARE, as the core has no spare (R447). -/
def State.coreError (s : State) : State :=
  let t := s.count HL_ERR_CORE 1
  let thr := s.f HL_THRESH 47 36
  if thr ≠ 0 ∧ thr ≤ t.f HL_ERR_CORE 47 0 then t.setB HL_ALERT 0 true else t

/-- A dirty victim is written back (R330): an error response, or an error that the code does not correct (R332), loses the line as
LATE_BUS_ERROR with entry 16 (R333). -/
def State.evict (s : State) (v : L2Line) (o : Outside) : State :=
  let t := (s.l2Set v.set v.way none).l1Drop v.line
  if !v.dirty then t
  else if v.err = .hard then t.lbe (v.line * 64) 16
  else
    match (if v.err = .soft then t.coreError else t).writeOut v.line (lineBytes v.data) o with
    | (some a, t') => t'.lbe a 16
    | (none, t') => t'

/-- A line is allocated in the L2 (R330, R331): the victim leaves first, written back if dirty, then the fill is read.
None: the fill got an error response. -/
def State.l2Alloc (s : State) (line : Nat) (o : Outside) : Option Line × State :=
  let set := line % 2048
  let r := lfsrStep s.core.lfsr
  let s1 : State := { s with core := { s.core with lfsr := r } }
  let used := s1.core.l2.filter (fun x => decide (x.set = set))
  let way := match findBelow 16 (fun w => !(used.any (fun x => decide (x.way = w)))) with
    | some w => w
    | none => fld r 3 0
  let s2 := match used.find? (fun x => decide (x.way = way)) with
    | none => s1
    | some v => s1.evict v o
  match o.get (line * 64) 64 with
  | none => (none, s2)
  | some bs =>
    let d := ofLine bs
    (some d, s2.l2Set set way (some ⟨set, way, line / 2048, false, d, .ok⟩))

/-- A line of the L2, filled if absent (R332): a single-bit error is corrected and counted; a clean line with more is invalidated and
refetched, and a dirty one fails the access. -/
def State.l2Get (s : State) (line : Nat) (o : Outside) : Option Line × State :=
  match s.l2Find line with
  | none => s.l2Alloc line o
  | some x =>
    match x.err with
    | .ok => (some x.data, s)
    | .soft => (some x.data, s.coreError.l2Set x.set x.way (some { x with err := .ok }))
    | .hard => if x.dirty then (none, s) else ((s.l2Set x.set x.way none).l1Drop line).l2Alloc line o

/-- Bytes are written into a line of the L2 and of the L1D copy (R327, R328). -/
def State.l2Merge (s : State) (line : Nat) (bytes : List (Nat × Byte)) : State :=
  let upd := fun (d : Line) => ofLine (bytes.foldl (fun l p => l.set p.1 p.2) (lineBytes d))
  let s1 := match s.l2Find line with
    | some x => s.l2Set x.set x.way (some { x with dirty := true, data := upd x.data })
    | none => s
  s1.l1dMap line upd

/-! ## Store buffer (R328, R333) -/

/-- The head entry completes (R328): into the L2, the Yard or the host window; or fails as LATE_BUS_ERROR with none of its
bytes written. -/
def State.drainHead (s : State) (o : Outside) : State :=
  match s.core.sb with
  | [] => s
  | e :: t =>
    let s1 : State := { s with core := { s.core with sb := t } }
    let lo := e.line * 64 + (match e.bytes with | [] => 0 | p :: r => r.foldl (fun m q => min m q.1) p.1)
    let fail := fun (u : State) (a : Nat) => let (n, v) := u.sbNumber; v.lbe a n
    match e.cls with
    | .yard =>
      match s1.place (e.line * 64) with
      | .yard y =>
        if s1.owned coreOnly y 64 then e.bytes.foldl (fun u p => u.yWrite (y + p.1) [p.2]) s1 else fail s1 lo
      | _ => fail s1 lo
    | .dram | .remote =>
      match s1.l2Get e.line o with
      | (none, s2) => fail s2 lo
      | (some _, s2) => s2.l2Merge e.line e.bytes
    | .host | .mmio =>
      let s2 := e.bytes.foldl (fun u p => u.send (.fabWrite .ctl (e.line * 64 + p.1) [p.2])) s1
      match (e.bytes.map (fun p => e.line * 64 + p.1)).filter (fun a => o.wrErr.contains a) with
      | [] => s2
      | a :: r => fail s2 (r.foldl min a)

/-- Every entry completes. -/
def drainN : Nat → State → Outside → State
  | 0, s, _ => s
  | n + 1, s, o => drainN n (s.drainHead o) o
def State.drainAll (s : State) (o : Outside) : State := drainN s.core.sb.length s o

/-- The entries up to and including the last one for a line complete. -/
def drainLineN : Nat → State → Nat → Outside → State
  | 0, s, _, _ => s
  | n + 1, s, line, o => if s.core.sb.any (fun e => decide (e.line = line)) then drainLineN n (s.drainHead o) line o else s
def State.drainLine (s : State) (line : Nat) (o : Outside) : State := drainLineN s.core.sb.length s line o

/-- A retired store enters the buffer (R328): merged into the youngest entry of its line, or a new entry, for which it waits
until one of 16 is free. A hit updates the L1D (R327). -/
def State.sbStore (s : State) (a : Nat) (cls : MemClass) (bs : List Byte) (o : Outside) : State :=
  let line := lineOf a
  let cells := (List.range bs.length).zip bs |>.map (fun p => (a % 64 + p.1, p.2))
  let upd := fun (d : Line) => ofLine (cells.foldl (fun l p => l.set p.1 p.2) (lineBytes d))
  let s0 := s.l1dMap line upd
  if s0.core.sb.any (fun e => decide (e.line = line)) then
    let add := fun (l : List (Nat × Byte)) => l.filter (fun q => !(cells.any (fun p => decide (p.1 = q.1)))) ++ cells
    { s0 with core := { s0.core with
        sb := s0.core.sb.map (fun e => if e.line = line then { e with bytes := add e.bytes } else e) } }
  else
    let s1 := if 16 ≤ s0.core.sb.length then s0.drainHead o else s0
    { s1 with core := { s1.core with sb := s1.core.sb ++ [⟨line, cls, cells⟩] } }

/-- Frame saves proceed to their end (R363): a DRAM frame through the L2, a Yard frame through the main port; an error is
LATE_BUS_ERROR with entry 18. -/
def State.saveFrame (s : State) (a : Nat) (ws : List Word) (o : Outside) : State :=
  (List.range 8).foldl (fun t i =>
    let la := a + 64 * i
    let bs := ((ws.drop (8 * i)).take 8).flatMap (fun w => toBytes 8 w.toNat)
    match t.place la with
    | .yard y => if t.owned coreOnly y 64 then t.yWrite y bs else t.lbe la 18
    | _ =>
      match t.l2Get (lineOf la) o with
      | (none, t') => t'.lbe la 18
      | (some _, t') => t'.l2Merge (lineOf la) ((List.range 64).zip bs)) s
def State.finishSaves (s : State) (o : Outside) : State :=
  let s1 := s.core.saves.foldl (fun t p => t.saveFrame p.1 p.2 o) s
  { s1 with core := { s1.core with saves := [] } }

/-- A frame that is still being saved touches a range (R363). -/
def State.saving (s : State) (a n : Nat) : Bool :=
  s.core.saves.any (fun p => decide (p.1 < a + n) && decide (a < p.1 + 512))

/-- A read of cacheable memory at one line (R327, R330). -/
def State.cacheRead (s : State) (a n : Nat) (o : Outside) : Option (List Byte) × State :=
  let line := lineOf a
  match s.core.l1d.find? (fun p => decide (p.1 = line)) with
  | some (_, _, d) =>
    (some (((lineBytes d).drop (a % 64)).take n),
      { s with core := { s.core with l1d := lruPut line d s.core.l1d } })
  | none =>
    match s.l2Get line o with
    | (none, s1) => (none, s1)
    | (some d, s1) =>
      (some (((lineBytes d).drop (a % 64)).take n),
        { s1 with core := { s1.core with l1d := lruPut line d s1.core.l1d } })

/-- What a read of a memory class gives: bytes, or the cause that stops it. -/
inductive Got where
  | bytes (l : List Byte)
  | bad (c : Cause) (fa : Word)
deriving DecidableEq, Repr

/-- A plain read of the core within one line, class device/MMIO apart (R326, R329, R336); an address that no class covers gets an error
response (R42, R369): from the store buffer if one entry
holds all of it, else after the entries that overlap it. -/
def State.coreRead (s : State) (va : Word) (a n : Nat) (cls : Option MemClass) (o : Outside) : Got × State :=
  let line := lineOf a
  let pa : Word := BitVec.ofNat 64 a
  let want := (List.range n).map (fun i => a % 64 + i)
  let hits := s.core.sb.filter (fun e => decide (e.line = line) && e.bytes.any (fun p => want.contains p.1))
  let full := match hits.getLast? with
    | some e => let l := want.map (fun k => (e.bytes.find? (fun p => decide (p.1 = k))).map (·.2))
                if l.all Option.isSome then some (l.filterMap (fun x => x)) else none
    | none => none
  match cls with
  | some .yard =>
    match s.place a with
    | .yard y =>
      if !s.owned coreOnly y n then (.bad .yardOwner va, s)
      else
        match full with
        | some bs => (.bytes bs, s)
        | none =>
          let s1 := if hits.isEmpty then s else s.drainLine line o
          let bad := !(s1.badIn y n).isEmpty
          let (bs, s2) := s1.yRead y n
          if bad then (.bad .busError pa, s2) else (.bytes bs, s2)
    | _ => (.bad .busError pa, s)
  | some .dram | some .remote =>
    match full with
    | some bs => (.bytes bs, s)
    | none =>
      let s1 := if hits.isEmpty then s else s.drainLine line o
      match s1.cacheRead a n o with
      | (some bs, s2) => (.bytes bs, s2)
      | (none, s2) => (.bad .busError pa, s2)
  | none => (.bad .busError pa, s)
  | _ =>
    match full with
    | some bs => (.bytes bs, s)
    | none =>
      let s1 := if hits.isEmpty then s else s.drainLine line o
      match o.get a n with
      | some bs => (.bytes bs, s1)
      | none => (.bad .busError pa, s1)

/-! ## Spans (R369 to R384) -/

/-- The four words of a span register. -/
def State.spanW (s : State) (i : Nat) : List Word := [s.rd (SP_SPAN_W0 i), s.rd (SP_SPAN_W1 i), s.rd (SP_SPAN_W2 i), s.rd (SP_SPAN_W3 i)]

/-- A span by its fields (R370): virtual base and size in bytes, physical base, class, marks and permissions. -/
structure Span where
  va : Nat
  n  : Nat
  pa : Nat
  w3 : Word
deriving DecidableEq, Repr
def spanOf (l : List Word) : Span :=
  ⟨fld (l.getD 0 0) 55 16 * 65536, fld (l.getD 1 0) 39 0 * 65536, fld (l.getD 2 0) 55 16 * 65536, l.getD 3 0⟩
def Span.v (p : Span) : Bool := bit p.w3 63
def Span.cls (p : Span) : Nat := fld p.w3 11 9
def Span.covers (p : Span) (a : Nat) : Bool := decide (p.va ≤ a) && decide (a < p.va + p.n)

def classOf : Nat → Option MemClass
  | 0 => some .dram
  | 1 => some .yard
  | 2 => some .mmio
  | 3 => some .host
  | 4 => some .remote
  | _ => none

/-- Every physical address of a range lies in one allowed range of its class (R371). -/
def State.classRange (s : State) (c a n : Nat) : Bool :=
  let l := localOf a
  let own := decide (pkgOf a = s.pins.pkg.toNat)
  let inside := fun lo hi => decide (lo ≤ l) && decide (l + n ≤ hi)
  let yardBlk := (l - 0x100000000000) / 0x100000000
  let inYard := decide (0x100000000000 ≤ l) && decide (l < 0x101000000000) &&
    decide ((l - 0x100000000000) % 0x100000000 + n ≤ yardBytes)
  match c with
  | 0 => own && inside 0 0x18000000000
  | 1 => own && inYard && decide (yardBlk = s.pins.blk.toNat)
  | 2 => inside 0x200000000000 0x200010000000
  | 3 => own && inside 0x300000000000 0x400000000000
  | 4 => if own then inYard && decide (yardBlk ≠ s.pins.blk.toNat) else inside 0 0x18000000000 || inYard
  | _ => false

/-- A register or table entry is malformed (R372). -/
def State.malformed (s : State) (l : List Word) : Bool :=
  let p := spanOf l
  let res := (l.getD 0 0 &&& ~~~(maskOf 55 16)) ||| (l.getD 1 0 &&& ~~~(maskOf 39 0)) |||
    (l.getD 2 0 &&& ~~~(maskOf 55 16)) ||| (p.w3 &&& (maskOf 62 12 ||| maskOf 6 4))
  decide (res ≠ 0) || decide (p.n = 0) || decide (2 ^ 56 < p.va + p.n) || decide (2 ^ 56 < p.pa + p.n) ||
    (classOf p.cls).isNone || !s.classRange p.cls p.pa p.n

/-- The registers that match an address (R374). -/
def State.spanHits (s : State) (a : Nat) : List Nat :=
  (List.range 32).filter (fun i => let p := spanOf (s.spanW i); p.v && p.covers a)

/-- A walk fault is recorded and counted (R381, R392). -/
def State.walkFault (s : State) (kind probes index addr : Nat) : State :=
  ((s.wrSet SP_WALKINFO (BitVec.ofNat 64 (2 ^ 63 + kind * 2 ^ 56 + probes * 2 ^ 48 + index))).wr SP_WALKADDR
    (BitVec.ofNat 64 addr)).count SP_CNT_WALKFAULT 1

/-- One 32-byte probe (R379): DRAM through the L2, the Yard through its main port. None: WALK_BUS. -/
def State.probe (s : State) (a : Nat) (o : Outside) : Option (List Word) × State :=
  let words := fun (bs : List Byte) => (List.range 4).map (fun i => (BitVec.ofNat 64 (ofBytes ((bs.drop (8 * i)).take 8)) : Word))
  match s.place a with
  | .yard y =>
    if !s.owned coreOnly y 32 then (none, s)
    else
      let bad := !(s.badIn y 32).isEmpty
      let (bs, s1) := s.yRead y 32
      if bad then (none, s1) else (some (words bs), s1)
  | .dram =>
    match s.l2Get (lineOf a) o with
    | (some d, s1) => (some (words (((lineBytes d).drop (a % 64)).take 32)), s1)
    | (none, s1) => (none, s1)
  | _ => (none, s)

/-- How a walk's search ended: the entry found and its index, or a fault. -/
inductive Walked where
  | found (e : Option (List Word × Nat)) (probes : Nat)
  | fault (c : Cause) (kind probes index addr : Nat)
deriving DecidableEq, Repr

/-- The binary search of R380; the fuel bounds the probes (13 at most). -/
def walkGo (base va : Nat) (o : Outside) : Nat → Nat → Nat → Option (List Word × Nat) → Nat → State → Walked × State
  | 0, _, _, f, pr, s => (.found f pr, s)
  | fuel + 1, lo, hi, f, pr, s =>
    if lo < hi then
      let mid := (lo + hi) / 2
      let a := base + 32 * mid
      match s.probe a o with
      | (none, s1) => (.fault .walkBus 2 (pr + 1) mid a, s1)
      | (some e, s1) =>
        if s1.malformed e then (.fault .walkFormat 3 (pr + 1) mid a, s1)
        else if (spanOf e).va ≤ va then walkGo base va o fuel (mid + 1) hi (some (e, mid)) (pr + 1) s1
        else walkGo base va o fuel lo mid f (pr + 1) s1
    else (.found f pr, s)

/-- The range of the table before the first read (R378): none if a walk may read it. -/
def State.tableBad (s : State) (a n : Nat) : Option (Cause × Nat) :=
  if n = 0 then none
  else
    let l := localOf a
    if decide (l < 0x200010000000) && decide (0x200000000000 < l + n) then some (.walkDevice, 1)
    else
      match s.place a, s.place (a + (n - 1)) with
      | .dram, .dram => none
      | .yard y, .yard _ => if s.owned coreOnly y n then none else some (.walkBus, 2)
      | _, _ => some (.walkBus, 2)

/-- A walk (R377 to R381): it loads the next refilled register, whose number it gives, or ends in a fault. -/
def State.walk (s : State) (va : Nat) (o : Outside) : Option Nat × Cause × State :=
  let base := s.f SP_TABLE 55 0
  let n := s.f SP_TABLEN 12 0
  let s0 := s.count SP_CNT_WALK 1
  match s0.tableBad base (32 * n) with
  | some (c, k) => (none, c, s0.walkFault k 0 0 base)
  | none =>
    match walkGo base va o 13 0 n none 0 s0 with
    | (.fault c k p i a, s1) => (none, c, s1.walkFault k p i a)
    | (.found none p, s1) => (none, .spanMiss, s1.walkFault 4 p 0 0)
    | (.found (some (e, i)) p, s1) =>
      let f := spanOf e
      if !f.v || !f.covers va then (none, .spanMiss, s1.walkFault 4 p 0 0)
      else if (List.range 32).any (fun j =>
          let q := spanOf (s1.spanW j); q.v && decide (q.n ≠ 0) && decide (q.va < f.va + f.n) && decide (f.va < q.va + q.n)) then
        (none, .spanConflict, s1.walkFault 5 p i 0)
      else
        let k := s1.f SP_REFILL 4 0
        let s2 := (((s1.wr (SP_SPAN_W0 k) (e.getD 0 0)).wr (SP_SPAN_W1 k) (e.getD 1 0)).wr (SP_SPAN_W2 k)
          (e.getD 2 0)).wr (SP_SPAN_W3 k) (e.getD 3 0)
        (some k, .spanMiss, s2.setF SP_REFILL 4 0 (16 + (k - 16 + 1) % 16))

/-- Permission and marks of a span for an access (R374 to R376). `eng`: the access is the Waybill engine's, for which a span of class
device/MMIO lacks both permissions (R285). -/
def spanCheck (p : Span) (k : Access) (eng : Bool) (priv : Nat) : Option Cause :=
  let r := bit p.w3 0
  let w := bit p.w3 1
  let x := bit p.w3 2
  let u := bit p.w3 3
  let perm := match k with
    | .read => r
    | .write => w
    | .readWrite => r && w
    | .fetch => x && (p.cls = 0 || p.cls = 4) && (decide (priv = 0) || !u)
  if !perm || (eng && decide (p.cls = 2)) || (decide (priv = 0) && !u) then some .spanPerm
  else if !bit p.w3 7 then some .markA
  else if (k = .write || k = .readWrite) && !bit p.w3 8 then some .markD
  else none

/-- What a translation gives: a physical address and its class (none: an address no class covers), or a fault. -/
inductive Tr where
  | ok (pa : Nat) (cls : Option MemClass)
  | bad (c : Cause) (fa : Word)
deriving DecidableEq, Repr

/-- The class of an untranslated physical address (R369, R371). -/
def State.classAt (s : State) (a : Nat) : Option MemClass :=
  ([0, 1, 2, 3, 4].find? (fun c => s.classRange c a 1)).bind classOf

/-- Translation of one address (R369, R374), at the core's privilege; `eng`: for the Waybill engine (R285). -/
def State.translateFor (s : State) (va : Word) (k : Access) (eng : Bool) (o : Outside) : Tr × State :=
  let a := va.toNat
  if 2 ^ 56 ≤ a then (.bad .spanMiss va, s)
  else if !s.b SP_CTRL 0 then
    let c := s.classAt a
    if (k = .fetch ∧ c ≠ some .dram ∧ c ≠ some .remote ∧ c ≠ none) ∨ (eng ∧ c = some .mmio) then (.bad .spanPerm va, s)
    else (.ok a c, s)
  else
    let use := fun (i : Nat) (t : State) =>
      let p := spanOf (t.spanW i)
      match spanCheck p k eng t.priv with
      | some c => (Tr.bad c va, t)
      | none => (Tr.ok (p.pa + (a - p.va)) (classOf p.cls), t)
    match s.spanHits a with
    | [i] => use i s
    | _ :: _ :: _ => (.bad .spanConflict va, s)
    | [] =>
      match s.walk a o with
      | (some i, _, s1) => use i s1
      | (none, c, s1) => (.bad c va, s1)

/-- Translation of one address for the core's own access. -/
def State.translate (s : State) (va : Word) (k : Access) (o : Outside) : Tr × State := s.translateFor va k false o

/-- SPINV form 0 (R384): the refilled registers are invalidated and NEXT is 16. -/
def State.spinvAll (s : State) : State :=
  ((List.range 16).foldl (fun t i => t.setB (SP_SPAN_W3 (16 + i)) 63 false) s).setF SP_REFILL 4 0 16

end Sys2Proof.Machine
end

