-- ==== Sys2Proof/Machine/CoreStep.lean ====
section
/-! DEFINITION. One instruction of the scalar core: what stands before it (a breakpoint, an eligible interrupt, the tensor
instructions in flight), its body, and how it ends. R337, R351, R353, R455. -/

namespace Sys2Proof.Machine

/-- The breakpoint at the core's pc (R455); one at the address RESUME restarted at does not halt until its instruction has retired
once. -/
def State.breakpoint (s : State) : Option Nat :=
  if !s.b DB_CTRL 0 || decide (s.core.passBp = some s.core.pc) then none
  else findBelow 4 (fun i => s.b (DB_BREAK i) 63 && decide (s.f (DB_BREAK i) 55 2 * 4 = s.core.pc.toNat))

/-- A halt is requested and may take effect (R454, R455). -/
def State.haltAsked (s : State) : Bool := s.b DB_CTRL 0 && s.b DB_CTRL 1

/-- Fetch restarts at DB_PC with the core's state as the host left it (R455), and RESUME clears, unless it was asked for again in this
ACLK (R12). -/
def State.resume (s : State) : State :=
  if s.core.run ≠ .halted then s
  else
    let s1 := (s.setB DB_STATUS 0 false).fulfil DB_CTRL 2
    { s1 with core := { s1.core with run := .run, pc := s1.rd DB_PC, passBp := some (s1.rd DB_PC) } }

/-- The core halts (R455): it abandons as for an interrupt (R337, R338), writes no frame, and the returned pc goes to DB_PC. HALTREQ
clears, unless it was asked for again in this ACLK (R12); a RESUME that was asked for before is carried out (log 48). -/
def State.debugHalt (s : State) (reason bp : Nat) : State :=
  let (res, done, s0) := s.queuedAtIrq
  let (tpc, s1) := (res.foldl (fun t p => t.setG p.1 p.2) s0).abandonTensor
  let s2 := s1.abandonWait
  let pc := match tpc with | some p => p | none => if done then s2.core.pc + 4 else s2.core.pc
  let s3 := ((s2.wr DB_PC pc).wr DB_STATUS (BitVec.ofNat 64 (bp * 16 + reason * 4 + 1))).fulfil DB_CTRL 1
  let s4 : State := { s3 with core := { s3.core with run := .halted } }
  if s4.b DB_CTRL 2 then s4.resume else s4

/-- The pass that RESUME gave ends as the instruction at its address retires (R455). -/
def Core.passed (k : Core) : Option Word := if k.passBp = some k.pc then none else k.passBp

/-- An instruction retires: the core goes on at p. -/
def State.retire (s : State) (p : Word) : State := { s with core := { s.core with pc := p, passBp := s.core.passed } }

/-- How an instruction's end becomes a state (R339, R351). -/
def Ran.finish (r : Ran) (pc : Word) (w : Insn) : State :=
  match r with
  | .done t => t.retire (pc + 4)
  | .goto t p => t.retire p
  | .fault c fa t => t.syncFault c fa pc w
  | .hold t => t
def Ran.isFault : Ran → Bool
  | .fault _ _ _ => true
  | _ => false

/-! ## Instructions behind tensor instructions (R115, R174, R214, R322) -/

/-- The station of a tensor opcode is occupied (R115, R174), or a unit of it is under test (R446). -/
def State.stationBusy (s : State) (w : Insn) : Bool :=
  let o := opcode w
  ((s.mxBusy || s.testing 1 || s.testing 5) && decide (0x28 ≤ o) && decide (o ≤ 0x2A)) ||
    ((s.tfBusy || s.testing 5 || s.testing 6) && (decide (o = 0x2B) || decide (o = 0x2C))) ||
    ((s.vxBusy || s.testing 4) && decide (0x20 ≤ o) && decide (o ≤ 0x25))

/-- The tiles a matrix instruction reads or writes. -/
def mxTiles (w : Insn) : List Nat := if opcode w = 0x28 then [fld w 21 18, fld w 17 14] else [fld w 21 18]

/-- An instruction that may be accepted behind others that are in flight: one of the matrix array behind such, where no breakpoint
stands at it, no drain in flight writes a tile it uses or would still write after its commit, and TF_START stands as it will (R115,
R135, R174, log 47). -/
def State.joins (s : State) (w : Insn) : Bool :=
  decide (0x28 ≤ opcode w) && decide (opcode w ≤ 0x2A) && s.coreVx.isEmpty && s.breakpoint.isNone &&
    s.coreDrains.all (fun j => !(mxTiles w).contains (fld j.w 21 18) &&
      (decide (opcode w ≠ 0x28) || j.todo.all (fun q => decide (q.1 ≤ s.time.toNat + s.tmmaD w + 17)))) &&
    (decide (opcode w ≠ 0x2A) || !s.b TF_START 63 || s.coreDrains.isEmpty)

/-- An instruction of the core must wait: for its station, or for the tensor instructions before it, behind which it retires. -/
def State.staysBehind (s : State) (w : Insn) : Bool := (!s.tmode && s.stationBusy w) || (s.inFlight && !s.joins w)

/-- In-use and type bits as the commits in flight leave them (R104). -/
def State.ahead (s : State) : State :=
  s.coreMx.foldl (fun t o => o.sums.foldl (fun u p => (u.setB MX_ACCINUSE p.1 true).setB MX_ACCTYPE p.1 o.int) t) s

/-- One instruction of the core (R337, R353): a core that does not run does nothing; a halt asked for comes first, then the
instructions that wait already; a breakpoint halts where the instruction is the oldest one unretired; an eligible interrupt is taken;
an instruction that must wait for older tensor instructions does, and so does one that faults, until no older one can (R322, R351). -/
def State.coreStep (s : State) (i : Instr) (w : Insn) (body : State → Ran) : State :=
  let wait := fun (t : State) (l : List (Instr × Insn)) => ({ t with core := { t.core with younger := l } } : State)
  if s.core.run ≠ .run then s
  else if s.haltAsked then s.debugHalt 1 0
  else if !s.core.going && !s.core.younger.isEmpty then wait s (s.core.younger ++ [(i, w)])
  else
    let t : State := { s with core := { s.core with going := false } }
    match (if t.inFlight then none else t.breakpoint), t.chosenIrq with
    | some b, _ => t.debugHalt 2 b
    | none, some c => t.takeIrq c
    | none, none =>
      let r := body t
      if t.staysBehind w || (t.inFlight && (r.isFault || (body t.ahead).isFault)) then wait t ((i, w) :: t.core.younger)
      else r.finish t.core.pc w

/-- The instruction that waits longest goes ahead once it need not wait, or once a halt or an interrupt is to take its place. -/
def State.goAhead (s : State) : State :=
  match s.core.younger with
  | (i, w) :: r =>
    if s.core.run = .run ∧ !s.core.going ∧ (!s.staysBehind w || s.haltAsked || s.chosenIrq.isSome) then
      { s with core := { s.core with younger := r, going := true }, pending := s.pending ++ [i] }
    else s
  | [] => s

/-- A commit of a core instruction comes about (R109, R110): with a NaN that traps, the trap is precise (R137), everything younger
is given up (R135), and an eligible interrupt comes before the fault (R353). -/
def State.coreCommit (s : State) (op : MxOp) : State :=
  let s1 := s.dropMx op
  match s1.commitOp op with
  | (none, t) => t
  | (some t, _) =>
    match s.chosenIrq with
    | some c => s.takeIrq c
    | none => (t.count MX_CNT_ABANDON 1).abandonTensor.2.syncFault .nanFirst 0 op.pc op.w

/-- The trap of a drain of the core at the group with its first NaN (R133, R137), its record made; an eligible interrupt comes before
the fault (R353). -/
def State.drainTrap (s : State) (j : Job) (trapped : State) : State :=
  match s.chosenIrq with
  | some c => s.takeIrq c
  | none =>
    let t : State := { trapped with tensor := { trapped.tensor with
      jobs := trapped.tensor.jobs.filter (fun x => !(x.at_.isNone && decide (x.t = j.t))) } }
    (t.count MX_CNT_ABANDON 1).abandonTensor.2.syncFault .nanFirst 0 j.pc j.w

end Sys2Proof.Machine
end

