-- ==== Sys2Proof/Machine/Lines.lean ====
section
/-! DEFINITION. The data plane's accesses that follow fixed leg cycles once begun: the lines of mail draws, of relay landings and
of Yard-only transfers, the frames being sent, and who has a bank's main port in a cycle.
Sections: R64, R65, R88, R281, R308, R310, R311, R314 to R316, R456. -/

namespace Sys2Proof.Machine

/-! ## Who uses a bank's main port in a leg cycle (R456) -/

/-- The sequencer's fetch (R65): in the changeover, and in the cycle in which a lane issues the first slot of a line. -/
def State.fetchAt (s : State) (bank cyc : Nat) : Bool :=
  (s.tt = 1 || s.tt = 2) && (List.range 4).any (fun i =>
    let l := s.seq.lanes.toList.getD i Lane.idle
    let at_ := fun (n : Nat) => decide (4 * n < l.count) && decide (bankOf (l.base + 64 * n) = bank)
    (decide (44 + 5 * i ≤ cyc) && decide (cyc < 49 + 5 * i) && at_ (cyc - 44 - 5 * i)) ||
      (decide (0 < l.next) && decide (cyc = l.last) && decide ((l.next - 1) % 4 = 0) && at_ ((l.next - 1) / 4 + 4)) ||
      (!l.ended && decide (l.next % 4 = 0) && at_ (l.next / 4 + 4) && decide (64 ≤ cyc) &&
        decide (cyc + s.f HN_MARGIN 19 0 < s.f HN_PERIOD 26 0) &&
        l.buf.any (fun p => decide (p.1 = l.next) && decide (l.last + fld p.2 127 108 = cyc))))

/-- Mail is drawn while a timetable runs or runs out (R91, R92). -/
def State.mailOn (s : State) : Bool := s.tt = 1 || s.tt = 2 || s.tt = 4

/-- Fields of a mail slot (R99): enabled, deadline, tag word, offset and length of a buffer. -/
def State.mailEn (s : State) (k : Nat) : Bool := s.b (HN_MAIL_DEADLINE k) 63
def State.mailD (s : State) (k : Nat) : Nat := s.f (HN_MAIL_DEADLINE k) 26 0
def State.mailTag (s : State) (k : Nat) : Nat := s.f (HN_MAIL_TAGW k) 28 3 * 8
def bufOff (w : Word) : Nat := fld w 28 6 * 64
def bufLen (w : Word) : Nat := fld w 57 48 + 1

/-- The mail slots whose draw uses a bank in a cycle. -/
def State.mailAt (s : State) (bank cyc : Nat) : List Nat :=
  (List.range 16).filter (fun k =>
    s.mailOn && s.mailEn k &&
      (let dl := s.mailD k
       if cyc = dl then decide (bankOf (s.mailTag k) = bank)
       else if cyc < dl then false
       else
         let (off, len) := match s.mail.draws.find? (fun d => decide (d.k = k)) with
           | some d => (d.off, d.len)
           | none => (bufOff (s.rd (HN_MAIL_BUF k)), if s.cycle < dl then bufLen (s.rd (HN_MAIL_BUF k)) else 0)
         decide (cyc ≤ dl + len) && decide (bankOf (off + 64 * (cyc - dl - 1)) = bank)))

/-- The frames whose landing uses a bank in a cycle, by lane (R311). -/
def State.landAt (s : State) (bank cyc : Nat) : List Nat :=
  (s.relay.landing.filter (fun f => decide (bankOf f.dst = bank) && decide (f.land ≤ cyc) && decide (cyc < f.land + 4))).map (·.lane)

/-- A scheduled transfer with both sides in the block's Yard (R279): the two offsets. -/
def State.yardOnly (s : State) (d : Desc) : Option (Nat × Nat) :=
  match d.srcP, d.dstP with
  | [(a, _, _)], [(b, _, _)] =>
    match s.place a, s.place b with
    | .yard x, .yard y => some (x, y)
    | _, _ => none
  | _, _ => none

/-- The value of YD_TIME at a leg cycle, and the leg cycle at a time. -/
def State.timeOf (s : State) (cyc : Nat) : Nat := s.time.toNat + cyc - s.cycle
def State.cycOf (s : State) (t : Nat) : Nat := s.cycle + t - s.time.toNat

/-- The scheduled channels with a Yard-only transfer, with its offsets, its lines and the time it was fired. -/
def State.yardMoves (s : State) : List (Nat × Desc × Nat × Nat × Nat × Nat) :=
  (List.range 16).filterMap (fun c =>
    match (s.wb.ch.toList.getD c Chan.empty).active with
    | none => none
    | some d => (s.yardOnly d).map (fun p => (c, d, p.1, p.2, d.len / 64, d.firedAt)))

/-- The channels whose lines use a bank in a cycle (R281). -/
def State.lineAt (s : State) (bank cyc : Nat) : List Nat :=
  s.yardMoves.filterMap (fun (c, _, x, y, n, t) =>
    let now := s.timeOf cyc
    let hit := fun (o k : Nat) => decide (t + k ≤ now) && decide (now < t + k + n) &&
      decide (bankOf (o + 64 * (now - t - k)) = bank)
    if hit x 2 || hit y 15 then some c else none)

/-- An access of rank r (2 mail, 3 landing, 4 Waybill line, 5 slot) by unit `i` of its kind is served (R456); between accesses of
one rank the lower slot, lane or channel is. -/
def State.served (s : State) (r i bank cyc : Nat) : Bool :=
  let low := fun (q : Nat) (l : List Nat) => l.all (fun j => decide (r < q) || (decide (r = q) && decide (i ≤ j)))
  !s.fetchAt bank cyc && low 2 (s.mailAt bank cyc) && low 3 (s.landAt bank cyc) && low 4 (s.lineAt bank cyc)

/-! ## Mail lines (R314, R316) -/

/-- The block sends a mail line or record; it holds a MAIL credit (R297). -/
def State.mailSend (s : State) (addr : Nat) (bs : List Byte) : State :=
  ({ s with mail := { s.mail with held := s.mail.held + 1 } } : State).send (.fabWrite .mail addr bs)

/-- The base of a slot's window. -/
def State.mailBase (s : State) (k : Nat) : Nat := s.f (RL_MAIL_BASE k) 55 6 * 64

/-- A line read by a draw leaves, waits, or is discarded: the state, and whether it was discarded. -/
def State.mailLine (s : State) (k j : Nat) (bs : List Byte) : Bool × State :=
  let a := s.mailBase k + 64 * j
  if s.mail.lines.isEmpty ∧ s.mail.held < 64 then (false, s.mailSend a bs)
  else if s.mail.lines.length < 64 then
    (false, { s with mail := { s.mail with lines := s.mail.lines ++ [(a, bs)] } })
  else (true, s.count RL_CNT_MAILDROP 1)

/-- One line of a draw is read at its cycle (R88, R456). -/
def State.drawLine (s : State) (d : Draw) : State :=
  let cyc := d.dl + 1 + d.next
  let o := d.off + 64 * d.next
  let (drop, s1) :=
    if s.served 2 d.k (bankOf o) cyc then
      let (bs, t) := s.yRead o 64
      t.mailLine d.k d.next bs
    else (true, s)
  { s1 with mail := { s1.mail with draws := s1.mail.draws.map (fun e =>
      if e.k = d.k then { e with next := d.next + 1, drop := e.drop || drop } else e) } }

/-- The lines of a draw due by cycle c. -/
def drawLines : Nat → Nat → Nat → State → State
  | 0, _, _, s => s
  | n + 1, k, c, s =>
    match s.mail.draws.find? (fun d => decide (d.k = k)) with
    | some d => if d.next < d.len ∧ d.dl + 1 + d.next ≤ c then drawLines n k c (s.drawLine d) else s
    | none => s

/-! ## Landings (R311) -/

/-- A landing line is written and its words set full; every wired waiter is woken. -/
def State.landLine (s : State) (f : LFrame) (j : Nat) : State :=
  let o := f.dst + 64 * j
  let s1 := s.yWrite o ((f.payload.drop (64 * j)).take 64)
  (List.range 8).foldl (fun t i => (t.setTag (o + 8 * i) true).changed (.word (o + 8 * i)) (idRelay f.lane) opRelay none) s1

/-- A refused frame is counted with its reason (R309). -/
def State.refuse (s : State) (l reason : Nat) : State := (s.count (RL_CNT_REFUSED l) 1).setF (RL_LANE_STATUS l) 58 56 reason

/-- The status of a landed frame (R310, R318). -/
def State.landed (s : State) (f : LFrame) : State :=
  let k := max (-128) (min 127 f.skew)
  ((s.count (RL_CNT_RX f.lane) 1).setF (RL_LANE_STATUS f.lane) 47 40 (k % 256).toNat).setF (RL_LANE_STATUS f.lane) 26 0 f.land

/-- The lines of a frame due by cycle c, of `n` that remain: the frame as it then is. -/
def landLines : Nat → Nat → LFrame → State → LFrame × State
  | 0, _, f, s => (f, s)
  | n + 1, c, f, s =>
    if f.land + f.next ≤ c then
      if s.served 3 f.lane (bankOf f.dst) (f.land + f.next) then
        landLines n c { f with next := f.next + 1 } (s.landLine f f.next)
      else landLines n c { f with next := f.next + 1, lost := true } (if f.lost then s else s.refuse f.lane 7)
    else (f, s)

/-- Every frame's lines due by cycle c. -/
def State.landDue (s : State) (c : Nat) : State :=
  s.relay.landing.foldl (fun t f =>
    let (f', t1) := landLines (4 - f.next) c f t
    { t1 with relay := { t1.relay with landing := t1.relay.landing.map (fun x => if x = f then f' else x) } }) s

/-- A frame whose last line was due has landed and leaves its buffer, once the accesses of that cycle that it ranks above have been
made (R456). -/
def State.landDone (s : State) : State :=
  let out := s.relay.landing.filter (fun f => decide (f.next = 4) && !f.lost)
  out.foldl State.landed { s with relay := { s.relay with landing := s.relay.landing.filter (fun f => decide (f.next ≠ 4)) } }

/-! ## Lines of Yard-only transfers (R281) -/

def State.setActive (s : State) (c : Nat) (d : Option Desc) : State :=
  { s with wb := { s.wb with ch := s.wb.ch.setIfInBounds c { s.wb.ch.toList.getD c Chan.empty with active := d } } }

/-- Bytes confirmed without a gap from stream position 0 (R277). -/
def confirmGo : Nat → List (Nat × Nat) → Nat → Nat
  | 0, _, p => p
  | n + 1, l, p => match l.find? (fun q => decide (q.1 = p)) with
    | some q => confirmGo n l (p + q.2)
    | none => p
def Desc.confirmed (d : Desc) : Nat := confirmGo d.written.length d.written 0

/-- A stretch is confirmed; what is confirmed without a gap is one stretch. -/
def Desc.confirm (d : Desc) (p n : Nat) : Desc :=
  let k := d.confirmed
  { d with written := if p = k then (0, k + n) :: d.written.filter (fun q => decide (k + n ≤ q.1)) else d.written ++ [(p, n)] }

/-- An event of a channel is reported to a host client (R278, R413): HALF bit 0, DONE bit 1, ERR bit 2. -/
def State.chanReport (s : State) (c ev : Nat) : State :=
  if 16 ≤ c ∧ s.f (WB_CH_CFG c) 1 0 = 1 then
    s.unsolicited 0x8002
      (BitVec.ofNat 64 (c + s.f (WB_CH_STATUS c) 7 0 * 2 ^ 8 + s.f (WB_CH_STATUS c) 15 8 * 2 ^ 16 + ev * 2 ^ 24))
      (BitVec.ofNat 64 (s.f (WB_CH_RESIDUE c) 39 0)) (BitVec.ofNat 64 (s.f (WB_CH_USER c) 63 32))
  else s

/-- HALF once the first half is confirmed (R274). -/
def State.halfCheck (s : State) (c : Nat) : State :=
  match (s.wb.ch.toList.getD c Chan.empty).active with
  | none => s
  | some d =>
    if bit d.ctrl 15 ∧ !d.half ∧ d.len / 2 ≤ d.confirmed then
      ((s.setActive c (some { d with half := true })).setB (WB_CH_STATUS c) 32 true).chanReport c 1
    else s

/-- DTAG of a descriptor (R261). -/
def Desc.dtag (d : Desc) : Bool := bit d.ctrl 11

/-- The words that a write of a requester touches are set full in its bank cycle, one that it writes in part too (R271, log 21). -/
def State.fillWords (s : State) (o n who : Nat) : State :=
  (List.range ((o + n + 7) / 8 - o / 8)).foldl (fun t i => t.refill (wordOf o + 8 * i) who opFill) s

/-- Where source and destination overlap, the values read are not defined (R270): byte by byte a free value. -/
def State.blur (s : State) (o : Nat) (bs : List Byte) (lo n : Nat) : List Byte × State :=
  if o + bs.length ≤ lo ∨ lo + n ≤ o then (bs, s)
  else
    let f := s.fresh
    ((List.range bs.length).zip bs |>.map (fun p =>
        if lo ≤ o + p.1 ∧ o + p.1 < lo + n then BitVec.ofNat 8 (Config.freeWord (f + p.1)).toNat else p.2),
      { s with fresh := f + bs.length })

/-- A line is not moved because its bank cycle was taken. -/
def State.loseLine (s : State) (c : Nat) (d : Desc) (j : Nat) : State :=
  (s.setActive c (some { d with lost := some (match d.lost with | some k => min k j | none => j) })).collision 3 d.lane d.slot none

/-- Line j is read at the source bank. -/
def State.lineRead (s : State) (c : Nat) (d : Desc) (x y t j : Nat) : State :=
  let d1 := { d with next := j + 1 }
  if d.stop.isSome then s.setActive c (some d1)
  else if !(s.owned ttReads (x + 64 * j) 64 && s.owned ttWrites (y + 64 * j) 64) then
    s.setActive c (some { d1 with stop := some j })
  else if !s.served 4 c (bankOf (x + 64 * j)) (s.cycOf (t + 2 + j)) then s.loseLine c d1 j
  else
    let s0 := if (s.badIn (x + 64 * j) 64).isEmpty then s else s.setB (WB_CH_STATUS c) 35 true
    let (bs, s1) := s0.yRead (x + 64 * j) 64
    let (bs', s2) := s1.blur (x + 64 * j) bs y d.len
    s2.setActive c (some { d1 with buf := d1.buf ++ [(j, bs')] })

/-- Line j is written at the destination bank. -/
def State.lineWrite (s : State) (c : Nat) (d : Desc) (y t j : Nat) (bs : List Byte) : State :=
  let d1 := { d with buf := d.buf.filter (fun p => decide (p.1 ≠ j)) }
  let o := y + 64 * j
  if (match d.stop with | some k => decide (k ≤ j) | none => false) then s.setActive c (some d1)
  else if !s.owned ttWrites o 64 then s.setActive c (some { d1 with stop := some j })
  else if !s.served 4 c (bankOf o) (s.cycOf (t + 15 + j)) then s.loseLine c d1 j
  else
    let s1 := (s.setActive c (some (d1.confirm (64 * j) 64))).yWrite o bs
    (if d.dtag then s1.fillWords o 64 (idChan c) else s1).halfCheck c

/-- The line events of one channel due by time c: a read before a write of one cycle. -/
def lineMoves : Nat → Nat → Nat → State → State
  | 0, _, _, s => s
  | n + 1, ch, c, s =>
    match s.yardMoves.find? (fun m => decide (m.1 = ch)) with
    | none => s
    | some (_, d, x, y, lines, t) =>
      let rd := if d.next < lines ∧ t + 2 + d.next ≤ c then some (t + 2 + d.next) else none
      match d.buf, rd with
      | (j, bs) :: _, some r =>
        if t + 15 + j ≤ c ∧ t + 15 + j < r then lineMoves n ch c (s.lineWrite ch d y t j bs)
        else lineMoves n ch c (s.lineRead ch d x y t d.next)
      | (j, bs) :: _, none => if t + 15 + j ≤ c then lineMoves n ch c (s.lineWrite ch d y t j bs) else s
      | [], some _ => lineMoves n ch c (s.lineRead ch d x y t d.next)
      | [], none => s

/-! ## Transmissions (R308) -/

/-- A frame whose first transmit cycle is reached leaves if its lane is enabled and its port is up, and is dropped otherwise; the lane is
occupied until its last transmit cycle has passed. -/
def State.txOne (s : State) (x : TxFrame) (now : Nat) : Option TxFrame × State :=
  match x.frame with
  | some f =>
    if now < x.at_ + 8 then (some x, s)
    else if s.b (RL_LANE_CFG x.lane) 63 && bit s.pins.lock (s.port x.lane) then
      (some { x with frame := none, sending := true }, s.send (.relay x.lane f))
    else (some { x with frame := none }, s.setB (RL_LANE_STATUS x.lane) 61 true)
  | none => (if now < x.at_ + 18 then some x else none, s)

/-- Every transmission at time `now`. -/
def State.txDue (s : State) (now : Nat) : State :=
  let (l, s1) := s.relay.tx.foldl (fun (p : List TxFrame × State) x =>
    let (y, t) := p.2.txOne x now
    (p.1 ++ y.toList, t)) ([], s)
  { s1 with relay := { s1.relay with tx := l } }

end Sys2Proof.Machine
end

