-- ==== Sys2Proof/Machine/Descriptors.lean ====
section
/-! DEFINITION. Waybill descriptors: their fields and their checks, the status of a channel, and STAGE's read of one. Sections: R261, R262,
R275 to R280, R284 to R286, R295, R413. -/

namespace Sys2Proof.Machine

/-! ## Descriptors (R261, R262) -/

def State.chan (s : State) (c : Nat) : Chan := s.wb.ch.toList.getD c Chan.empty
def State.setChan (s : State) (c : Nat) (h : Chan) : State := { s with wb := { s.wb with ch := s.wb.ch.setIfInBounds c h } }

/-- The words of n bytes. -/
def wordsOf (bs : List Byte) : List Word := (chunksOf 8 bs).map (fun b => BitVec.ofNat 64 (ofBytes b))

/-- CTRL bits. -/
def Desc.slist (d : Desc) : Bool := bit d.ctrl 6
def Desc.dlist (d : Desc) : Bool := bit d.ctrl 7
def Desc.shv (d : Desc) : Bool := bit d.ctrl 8
def Desc.dhv (d : Desc) : Bool := bit d.ctrl 9
def Desc.gate? (d : Desc) : Bool := bit d.ctrl 10
def Desc.donek (d : Desc) : Nat := fld d.ctrl 13 12
def Desc.user (d : Desc) : Nat := fld d.lists 63 32

/-- A descriptor as its 64 bytes give it, with nothing translated or moved. -/
def descOf (ws : List Word) : Desc :=
  let w := fun i => ws.getD i 0
  ⟨w 0, w 1, w 2, fld (w 3) 39 0, w 4, w 5, w 6, w 7, [], [], [], [], none, none, false, 0, [], [], false, none, 0, 0, 0, none,
    none, []⟩

/-- Who queues a descriptor (R263): the core, the host or the Coachman, a STAGE slot. -/
inductive QKind where
  | core | phys | sched
deriving DecidableEq, Repr

/-- A side of a descriptor: its pairs (address, length word), whether it is a list, whether it is host-virtual, and whether its pairs
are known: those of a list are once it has been read. -/
structure Side where
  pairs : List (Word × Word)
  list  : Bool
  hv    : Bool
  known : Bool
deriving DecidableEq, Repr

/-- The first pair of a side with a property. -/
def Side.first (x : Side) (p : Word → Word → Bool) : Option Nat := findBelow x.pairs.length (fun i =>
  match x.pairs[i]? with | some q => p q.1 q.2 | none => false)

/-- Length of a pair: bits [31:0] in a list, LEN otherwise. -/
def Side.len (x : Side) (w : Word) : Nat := if x.list then fld w 31 0 else fld w 39 0

/-- Any range of a physical address lies in one mapped range of R41. -/
def mappedRange (a n : Nat) : Bool :=
  let l := localOf a
  let inside := fun lo hi => decide (lo ≤ l) && decide (l + n ≤ hi)
  inside 0 0x18000000000 ||
    (decide (0x100000000000 ≤ l) && decide (l < 0x101000000000) && decide ((l - 0x100000000000) % 0x100000000 + n ≤ yardBytes)) ||
    inside 0x200000000000 0x200010000000 || inside 0x300000000000 0x400000000000

/-- An address range lies in some block's Yard (R271). -/
def inAYard (a n : Nat) : Bool :=
  let l := localOf a
  decide (0x100000000000 ≤ l) && decide (l < 0x101000000000) && decide ((l - 0x100000000000) % 0x100000000 + n ≤ yardBytes)

/-- Detail 0x01 apart from the lists (R277). -/
def Desc.reservedBad (ws : List Word) : Bool :=
  let w := fun i => ws.getD i 0
  let k := fld (w 0) 13 12
  decide ((w 0) &&& (maskOf 43 16 ||| maskOf 5 0) ≠ 0) || decide (k = 3) || decide (fld (w 3) 63 40 ≠ 0) ||
    decide ((w 4) &&& (maskOf 15 14 ||| maskOf 31 30) ≠ 0) ||
    (decide (k = 0) && decide (w 5 ≠ 0)) || (decide (k = 1) && decide (fld (w 5) 63 12 ≠ 0)) ||
    (if bit (w 0) 10 then decide (fld (w 6) 31 12 ≠ 0) else decide (w 6 ≠ 0))

/-- The first that holds. -/
def firstOf (l : List (Option (Nat × Nat))) : Option (Nat × Nat) := (l.filterMap (fun x => x)).head?

/-- A check of both sides: the detail with the pair. -/
def onSides (detail : Nat) (a b : Side) (p : Side → Option Nat) : Option (Nat × Nat) :=
  match p a with
  | some i => some (detail, i)
  | none => (p b).map (fun i => (detail, i))

/-- The detail and PAIR of the first of the checks 0x01 to 0x02 that fails (R277): none of them needs a translation. -/
def descError (s : State) (ws : List Word) (k : QKind) (user : Bool) (a b : Side) : Option (Nat × Nat) :=
  let d := descOf ws
  firstOf [
    if Desc.reservedBad ws then some (1, 0) else none,
    onSides 1 a b (fun x => if x.list then x.first (fun _ n => decide (fld n 63 32 ≠ 0)) else none),
    if k = .sched ∧ (d.slist ∨ d.dlist ∨ d.shv ∨ d.dhv ∨ d.gate? ∨ d.stat ≠ 0) then some (7, 0) else none,
    if (d.shv ∨ d.dhv) ∧ (!s.feature featAts ∨ user) then some (8, 0) else none,
    if d.slist ∧ fld d.src 3 0 ≠ 0 then some (4, 0) else none,
    if d.dlist ∧ fld d.dst 3 0 ≠ 0 then some (4, 0) else none,
    if fld d.stat 4 0 ≠ 0 ∨ (d.donek = 2 ∧ fld d.done 2 0 ≠ 0) then some (4, 0) else none,
    if d.len = 0 then some (3, 0) else none,
    onSides 3 a b (fun x => x.first (fun v n => decide (x.len n = 0) || decide (2 ^ 56 < v.toNat + x.len n))),
    onSides 2 a b (fun x => if x.list ∧ x.known ∧ (x.pairs.map (fun p => x.len p.2)).foldl (· + ·) 0 ≠ d.len then some 0 else none)]

/-- The groups a channel's transfers may use (R35, R269, R279): read, write. -/
def State.mayRead (s : State) (c g : Nat) : Bool :=
  if c < 16 then ttReads g else if s.f (WB_CH_CFG c) 1 0 = 0 then g = ownCore || g = ownUns else g = ownUns || g = ownCoach
def State.mayWrite (s : State) (c g : Nat) : Bool :=
  if c < 16 then ttWrites g else s.mayRead c g

/-- An access to the block's own Yard that ownership does not allow. -/
def State.notOwned (s : State) (p : Nat → Bool) (a n : Nat) : Bool :=
  match s.place a with
  | .yard y => !s.owned p y n
  | _ => false

/-- A DONE tag word in a Coachman-owned group (R273). -/
def State.doneInCoach (s : State) (d : Desc) : Bool :=
  decide (d.donek = 2) && s.notOwned (fun g => decide (g ≠ ownCoach)) (fld d.done 55 0) 8

/-- The remaining checks of a physical descriptor, 0x09 to 0x06 (R277). -/
def physError (s : State) (c : Nat) (ws : List Word) (k : QKind) (a b : Side) : Option (Nat × Nat) :=
  let d := descOf ws
  let bad := fun (x : Side) (p : Nat → Nat → Bool) => if x.hv then none else x.first (fun v n => p v.toNat (x.len n))
  let inPkg : Nat → Bool := fun v => match s.place v with
    | .dram => true
    | .yard _ => true
    | .otherYard _ _ => true
    | _ => false
  let own : Nat → Nat → Bool := fun v n => match s.place v, s.place (v + (n - 1)) with
    | .yard _, .yard _ => true
    | _, _ => false
  let sv := d.src.toNat
  let dv := d.dst.toNat
  firstOf [
    onSides 9 a b (fun x => if 16384 < x.pairs.length then some 0 else none),
    if k = .phys then onSides 10 a b (fun x => bad x (fun v n => !mappedRange v n)) else none,
    if k = .phys ∧ ((d.stat ≠ 0 ∧ !mappedRange d.stat.toNat 32) ∨ (d.donek = 2 ∧ !mappedRange d.done.toNat 8)) then some (10, 0)
    else none,
    if k = .sched ∧ (!(own sv d.len && mappedRange dv d.len && inPkg dv) ∧ !(own dv d.len && mappedRange sv d.len && inPkg sv)) then
      some (7, 0) else none,
    if k = .sched ∧ own sv d.len ∧ own dv d.len ∧ (sv % 64 ≠ 0 ∨ dv % 64 ≠ 0 ∨ d.len % 64 ≠ 0) then some (7, 0) else none,
    if d.dtag then
      (if b.hv then some (5, 0)
       else (b.first (fun v n => !inAYard v.toNat (b.len n) || decide (v.toNat % 8 ≠ 0) || decide (b.len n % 8 ≠ 0))).map (fun i => (5, i)))
    else none,
    (bad a (fun v n => s.notOwned (s.mayRead c) v n)).map (fun i => (6, i)),
    (bad b (fun v n => s.notOwned (s.mayWrite c) v n)).map (fun i => (6, i)),
    if (d.stat ≠ 0 ∧ s.notOwned (s.mayWrite c) d.stat.toNat 32) ∨ s.doneInCoach d then some (6, 0) else none]

/-! ## Reads and writes of the engine -/

/-- What a read gives the engine. -/
inductive Rd where
  | ok (bs : List Byte)
  | owner
  | bus (a : Nat)
  | ecc (a : Nat)
deriving DecidableEq, Repr

/-- The engine reads n bytes at a physical address (R269, R236, R42). -/
def State.engineRead (s : State) (may : Nat → Bool) (a n : Nat) (o : Outside) : Rd × State :=
  match s.place a with
  | .yard y =>
    if !s.owned may y n then (.owner, s)
    else
      let bad := s.badIn y n
      let (bs, s1) := s.yRead y n
      (match bad with | w :: _ => .ecc (a + (w - y)) | [] => .ok bs, s1)
  | .unmapped => (.bus a, s)
  | _ =>
    match o.get a n with
    | some bs => (.ok bs, s)
    | none => (.bus (((List.range n).map (a + ·)).find? (fun x => !(o.rd.any (fun p => decide (p.1 = x)))) |>.getD a), s)

/-- A burst leaves in requests of at most 512 bytes that cross no 512-byte boundary (R264). -/
def sendReqs (cls : FabClass) (fill : Bool) : Nat → Nat → List Byte → State → State
  | 0, _, _, s => s
  | n + 1, a, bs, s =>
    let k := min bs.length (512 - a % 512)
    if k = 0 then s
    else
      let m : OutMsg := if fill then .tagOp a (.write (bs.take k) true) else .fabWrite cls a (bs.take k)
      sendReqs cls fill n (a + k) (bs.drop k) (s.send m)

/-! ## Status and events (R275 to R278) -/

/-- CODE, DETAIL, PAIR, RESIDUE and ERRADDR of a status (R295). -/
def State.putStatus (s : State) (c code detail pair residue errAddr : Nat) : State :=
  ((((s.setF (WB_CH_STATUS c) 7 0 code).setF (WB_CH_STATUS c) 15 8 detail).setF (WB_CH_STATUS c) 29 16 pair).wr
    (WB_CH_RESIDUE c) (BitVec.ofNat 64 (residue % 2 ^ 40))).wr (WB_CH_ERRADDR c) (BitVec.ofNat 64 (errAddr % 2 ^ 56))

/-- A status other than DONE sets ERR, and is reported. -/
def State.putError (s : State) (c code detail pair residue errAddr : Nat) : State :=
  ((s.putStatus c code detail pair residue errAddr).setB (WB_CH_STATUS c) 34 true).chanReport c 4

def State.qres (s : State) (c r : Nat) : State := s.setF (WB_CH_STATUS c) 42 40 r

/-! ## Staging (R280) -/

/-- The pieces of a side whose addresses are used as they stand. -/
def Side.pieces (x : Side) : List (Nat × Nat × Nat) :=
  ((List.range x.pairs.length).zip x.pairs).map (fun p => (p.2.1.toNat, x.len p.2.2, p.1))

/-- STAGE empties the shadow set of its channel in t, and in t + 1 reads the descriptor; a valid one is in the shadow set from
t + 4 (R280). -/
def State.unstage (s : State) (c : Nat) : State := s.setChan c { s.chan c with shadow := none }
def State.stage (s : State) (c : Nat) (off : Nat) : State :=
  let (bs, s1) := s.yRead off 64
  let ws := wordsOf bs
  let d := descOf ws
  let x : Side := ⟨[(d.src, ws.getD 3 0)], false, d.shv, true⟩
  let y : Side := ⟨[(d.dst, ws.getD 3 0)], false, d.dhv, true⟩
  let plain := !d.slist && !d.dlist
  let err := (descError s1 ws .sched false (if plain then x else ⟨[], true, false, false⟩) (if plain then y else ⟨[], true, false, false⟩)).orElse
    (fun _ => physError s1 c ws .sched x y)
  match err with
  | some e => s1.putError c 2 e.1 e.2 d.len 0
  | none => s1.setChan c { s1.chan c with
      shadow := some { d with srcP := x.pieces, dstP := y.pieces, firedAt := s1.time.toNat + 3 } }

end Sys2Proof.Machine
end

