-- ==== Sys2Proof/Machine/TileOps.lean ====
section
/-! DEFINITION. The Reformer, the tile management instructions, and TLD and TST as slots move their rows.
Sections: R154, R170 to R196, R219, R220. -/

namespace Sys2Proof.Machine

/-! ## The Reformer (R176 to R179) -/

/-- A conversion pair as sampled (R176): memory format, tile format, SGN, SCALE. -/
structure Conv where
  m   : Nat
  t   : Nat
  sgn : Bool
  sc  : Nat
deriving DecidableEq, Repr

/-- The pair that a TF_CONV register holds (R201). -/
def convOf (x : Word) : Conv := ⟨fld x 7 4, fld x 11 8, bit x 0, fld x 63 32⟩

/-- Wm / W of a pair of the table of R176, and whether TLD and TST may use it. -/
def Conv.row (c : Conv) : Option (Nat × Nat × Bool × Bool) :=
  match c.m, c.t with
  | 0, 0 => some (1, 1, true, true)
  | 4, 3 => some (1, 2, true, true)
  | 2, 1 => some (1, 2, true, true)
  | 1, 2 => some (2, 1, true, true)
  | 3, 1 => some (1, 4, true, false)
  | 3, 2 => some (1, 2, true, false)
  | 4, 1 => some (1, 8, true, false)
  | 4, 2 => some (1, 4, true, false)
  | 3, 5 => some (1, 4, false, true)
  | 4, 5 => some (1, 8, false, true)
  | _, _ => none

/-- Whether an instruction may use a pair: `st` for TST. -/
def Conv.ok (c : Conv) (st : Bool) : Bool := match c.row with | some (_, _, ld, sv) => if st then sv else ld | none => false

/-- Bytes in memory of a tile row of w bytes. -/
def Conv.wm (c : Conv) (w : Nat) : Nat := match c.row with | some (a, b, _, _) => w * a / b | none => 1

/-- The elements of a row by format code (R170, R177). -/
def unpackRow (f : Nat) (bs : List Byte) : List Nat :=
  match f with
  | 4 => bs.flatMap (fun b => [fld b 3 0, fld b 7 4])
  | 1 | 5 => elems 4 bs
  | 2 => elems 2 bs
  | _ => bs.map (·.toNat)

/-- The nibbles of INT4 elements as bytes. -/
def packNibbles : List Nat → List Byte
  | a :: b :: t => BitVec.ofNat 8 (a % 16 + b % 16 * 16) :: packNibbles t
  | [a] => [BitVec.ofNat 8 (a % 16)]
  | [] => []

/-- A row of elements by format code. -/
def packRow (f : Nat) (xs : List Nat) : List Byte :=
  match f with
  | 4 => packNibbles xs
  | 1 | 5 => xs.flatMap (toBytes 4)
  | 2 => xs.flatMap (toBytes 2)
  | _ => xs.map (BitVec.ofNat 8)

/-- What one element converts to: the element, clamp, NaN, flush. -/
structure Conved where
  out   : Nat
  clamp : Bool
  nan   : Bool
  flush : Bool
deriving DecidableEq, Repr

/-- A value into a floating-point format (R178, R154). -/
def toFloat (g : Fmt) (ftz : Bool) (v : FV) : Conved :=
  match v with
  | .nan _ => ⟨g.qnan, false, true, false⟩
  | .inf n => ⟨g.infBits n, false, false, false⟩
  | .fin n m e =>
    let (r, sat) := g.roundSat n m e
    let fl := ftz && g.isSub r
    ⟨if fl then 0 else g.plusZero r, sat, false, fl⟩

/-- The value of an integer element. -/
def intOf (f : Nat) (sgn : Bool) (x : Nat) : Int :=
  let n := match f with | 4 => 4 | 3 => 8 | _ => 32
  if sgn || f = 5 then sext n x else x

/-- The range of an integer format. -/
def intRange (f : Nat) (sgn : Bool) : Int × Int :=
  match f, sgn with
  | 4, true => (-8, 7)
  | 4, false => (0, 15)
  | _, true => (-128, 127)
  | _, false => (0, 255)

/-- An integer limited to a range, as the bits of its format. -/
def clampInt (f : Nat) (sgn : Bool) (n : Int) : Conved :=
  let (lo, hi) := intRange f sgn
  let c := min (max n lo) hi
  ⟨(c % 256).toNat, decide (c ≠ n), false, false⟩

/-- Quantise (R178): x int32 by SCALE. -/
def quantise (f : Nat) (sgn : Bool) (sc x : Nat) : Conved :=
  let z := int32 x
  match (FV.fin (decide (z < 0)) z.natAbs 0).mul (f32.dec sc) with
  | .nan _ => ⟨0, false, true, false⟩
  | .inf n => let (lo, hi) := intRange f sgn; ⟨((if n then lo else hi) % 256).toNat, false, false, false⟩
  | .fin n m e => clampInt f sgn (signed n (roundInt m e).1)

/-- The floating-point format of a code. -/
def fmtOf (f : Nat) : Fmt := if f = 1 then f32 else f16

/-- One element from format `src` to format `dst` (R178). -/
def convElem (src dst : Nat) (c : Conv) (ftz : Bool) (x : Nat) : Conved :=
  let fp := fun f => decide (f = 1) || decide (f = 2)
  if src = 0 then ⟨x, false, false, false⟩
  else if fp src then
    let (v, fl) := feed (fmtOf src) ftz x
    let r := toFloat (fmtOf dst) ftz v
    { r with flush := r.flush || fl }
  else if fp dst then
    let z := intOf src c.sgn x
    toFloat (fmtOf dst) ftz ((FV.fin (decide (z < 0)) z.natAbs 0).mul (f32.dec c.sc))
  else if src = 5 then quantise dst c.sgn c.sc x
  else if src = 4 then ⟨(intOf 4 c.sgn x % 256).toNat, false, false, false⟩
  else clampInt dst c.sgn (intOf src c.sgn x)

/-- A row converted: its bytes, clamp, NaN, flush. -/
def convRow (c : Conv) (st ftz : Bool) (bs : List Byte) : List Byte × Bool × Bool × Bool :=
  let src := if st then c.t else c.m
  let dst := if st then c.m else c.t
  let l := (unpackRow src bs).map (convElem src dst c ftz)
  (packRow dst (l.map (·.out)), l.any (·.clamp), l.any (·.nan), l.any (·.flush))

/-- The flags of a row that is written (R178, R154), and its count. -/
def State.rowFlags (s : State) (clamp nan flush : Bool) : State :=
  let s1 := if clamp then s.setB TF_FLAGS 0 true else s
  let s2 := if nan then s1.setB TF_FLAGS 1 true else s1
  (if flush then s2.setB MX_FLAGS 0 true else s2).count TF_CNT_ROWS 1

/-! ## TLD and TST (R181 to R189) -/

def tlTile (w : Insn) : Nat := fld w 24 21
def tlStore (w : Insn) : Bool := bit w 25
def State.tlConv (s : State) (w : Insn) : Conv := convOf (s.rd (TF_CONV (fld w 20 18)))

/-- TILE_SHAPE with a reason, the save-area address with reason 11 (R354); TF_FAULTINFO is written in core mode (R201). -/
def State.tfFault (s : State) (w : Insn) (site : Site) (reason : Nat) : Ran :=
  let sub := if opcode w = 0x2B then fld w 25 25 else fld w 25 22
  .fault .tileShape (if reason = 11 then site.addr else 0)
    (if site.slot.isNone then s.wr TF_FAULTINFO (BitVec.ofNat 64 (opcode w * 2 ^ 16 + sub * 2 ^ 12 + reason)) else s)

/-- The memory address of row r. -/
def rowAddr (site : Site) (r : Nat) : Word := site.addr + BitVec.ofNat 64 r * site.aux

/-- A row of memory as loaded is written to the tile through a pair. -/
def State.loadRow (s : State) (c : Conv) (w : Insn) (r : Nat) (bs : List Byte) : State :=
  let (out, clamp, nan, fl) := convRow c false s.ftz bs
  (s.tileWrite (tlTile w) r out).rowFlags clamp nan fl

/-- A row of the tile, n bytes, as memory takes it. -/
def State.storeRow (s : State) (c : Conv) (w : Insn) (r n : Nat) : List Byte × Bool × Bool × Bool :=
  convRow c true s.ftz (s.tileRow (tlTile w) r n)

/-- The Yard offset of row r in a slot: ADDR and AUX sign-extended from 32 bits (R181). -/
def slotRow (site : Site) (r : Nat) : Int := (fld site.addr 28 0 : Int) + r * sext 32 (fld site.aux 31 0)

/-- The first check of R183 that a row fails: reason 10, then YARD_OWNER with its offset. -/
def State.slotRowBad (s : State) (st : Bool) (n : Nat) (a : Int) : Option (Option Word) :=
  if a < 0 ∨ (yardBytes : Int) < a + n then some none
  else if s.owned (if st then ttWrites else ttReads) a.toNat n then none
  else some (some (BitVec.ofNat 64 (a.toNat + s.ownedUpTo (if st then ttWrites else ttReads) a.toNat n)))

/-! ## When a slot's lines issue (R185, R186, R219, R220) -/

/-- The 64-byte lines that ranges of n bytes at the given offsets touch, ascending. -/
def linesOf (n : Nat) (offs : List Nat) : List Nat :=
  offs.foldl (fun l o => (List.range ((o + n - 1) / 64 + 1 - o / 64)).foldl (fun m i => setIn (o / 64 + i) true m) l) []

/-- The entries (key, bank) of one cycle: in order, each whose bank has none yet, at most k; and those left. -/
def pickBanks : List (Nat × Nat) → List Nat → Nat → List (Nat × Nat) × List (Nat × Nat)
  | [], _, _ => ([], [])
  | b :: t, used, k =>
    if k = 0 ∨ used.contains b.2 then let (x, y) := pickBanks t used k; (x, b :: y)
    else let (x, y) := pickBanks t (b.2 :: used) (k - 1); (b :: x, y)

/-- Entries issued from cycle c on, 16 in a cycle: the next cycle, and what was issued (key, bank, cycle). The fuel bounds the
cycles. -/
def issueBanks : Nat → List (Nat × Nat) → Nat → List (Nat × Nat × Nat) → Nat × List (Nat × Nat × Nat)
  | 0, _, c, acc => (c, acc)
  | f + 1, pend, c, acc =>
    if pend.isEmpty then (c, acc)
    else
      let (now, left) := pickBanks pend [] 16
      issueBanks f left (c + 1) (acc ++ now.map (fun b => (b.1, b.2, c)))

/-- The lines of ranges, by their banks. -/
def lineBanks (n : Nat) (offs : List Nat) : List (Nat × Nat) := (linesOf n offs).map (fun l => (l, bankOf (64 * l)))

/-- A wave of a TLD or TST (R185, R186): its first row, its rows' offsets, the cycle of its tile access counted from acceptance
(e of R185, rc of R186), and its lines as issued. -/
structure Wave where
  first : Nat
  offs  : List Nat
  at_   : Nat
  lines : List (Nat × Nat × Nat)
deriving DecidableEq, Repr

/-- The waves of a TLD, cycles counted from t: D and the waves. -/
def tldPlan (nt n : Nat) (rows : List Nat) : Nat × List Wave :=
  let (c, ws) := (chunksOf 16 rows).foldl (fun (q : Nat × List Wave) wave =>
    let (c, l) := issueBanks 1024 (lineBanks n wave) q.1 []
    let e := max c (q.1 + nt)
    (e, q.2 ++ [⟨16 * q.2.length, wave, e, l⟩])) (2, [])
  (c - 2, ws)

/-- The waves of a TST. -/
def tstPlan (nt n : Nat) (rows : List Nat) : Nat × List Wave :=
  let (_, e1, _, ws) := (chunksOf 16 rows).foldl (fun (q : Nat × Nat × Nat × List Wave) wave =>
    let (rc, e1, e2, ws) := q
    let rc := max rc e2
    let (c, l) := issueBanks 1024 (lineBanks n wave) (max (rc + nt + 1) e1) []
    (rc + nt, c, e1, ws ++ [⟨16 * ws.length, wave, rc, l⟩])) (2, 0, 0, [])
  (e1 - 2, ws)

/-- D of a TLD or TST of a slot and its waves. -/
def movePlan (w : Insn) (site : Site) (h width : Nat) (c : Conv) : Nat × List Wave :=
  let rows := (List.range h).map (fun r => (slotRow site r).toNat)
  if tlStore w then tstPlan (width / 64) (c.wm width) rows else tldPlan (width / 64) (c.wm width) rows

/-- D of a TF instruction in a slot and the bank cycles it takes, by its tile's shape and its pair (R76, R187, R196). -/
def tfPlan (w : Insn) (site : Site) (h width : Nat) (c : Conv) : Nat × List (Nat × Nat) :=
  if opcode w = 0x2B then
    let p := movePlan w site h width c
    (p.1, p.2.flatMap (fun v => v.lines.map (fun l => (l.2.1, l.2.2))))
  else (1, [])

/-- The key of a line of wave v: a line may belong to several waves. -/
def waveKey (v line : Nat) : Nat := v * 2 ^ 26 + line

/-- The parts of a TLD or TST (R185, R186): rows that are written in ACLK e + 13 are seen from the next. -/
def moveParts (st : Bool) (ws : List Wave) : List (Nat × Micro) :=
  ((List.range ws.length).zip ws).flatMap (fun (v, x) =>
    if st then (x.at_, .waveRead v) :: x.lines.map (fun l => (l.2.2, .store (waveKey v l.1) (64 * l.1)))
    else x.lines.map (fun l => (l.2.2, .load (waveKey v l.1) (64 * l.1) 64)) ++ [(x.at_ + 14, .waveWrite v)])

/-- TLD and TST in a slot (R183): every check at issue, then its lines and rows at their cycles. -/
def State.tmoveSlot (s : State) (w : Insn) (site : Site) : Ran :=
  let t := tlTile w
  let st := tlStore w
  let c := s.tlConv w
  let n := c.wm (s.tileW t)
  let rows := (List.range (s.tileRows t)).map (slotRow site)
  if !c.ok st then s.tfFault w site 9
  else
    match (rows.filterMap (s.slotRowBad st n)).head? with
    | some none => s.tfFault w site 10
    | some (some fa) => .fault .yardOwner fa s
    | none =>
      let p := movePlan w site (s.tileRows t) (s.tileW t) c
      .done (({ s with tensor := { s.tensor with tfBusy := s.time.toNat + p.1 } } : State).startJob site 1 w t (moveParts st p.2)
        (fun j => { j with conv := s.rd (TF_CONV (fld w 20 18)) }))

/-- Encoding rules of 0x2B. -/
def tldIllegal (w : Insn) (st : Bool) : Bool := decide (opcode w ≠ 0x2B) || (tlStore w != st) || decide (fld w 17 10 ≠ 0)

/-! ## Tile management (R191 to R196) -/

def tmSub (w : Insn) : Nat := fld w 25 22
def tmTile (w : Insn) : Nat := fld w 21 18

/-- Encoding rules of 0x2C (R191) for a subop. -/
def tmIllegal (w : Insn) (sub : Nat) : Bool :=
  decide (opcode w ≠ 0x2C) || decide (tmSub w ≠ sub) ||
    (match sub with
     | 0 => decide (fld w 7 0 ≠ 0)
     | 1 => decide (fld w 17 0 ≠ 0)
     | 2 => decide (fld w 20 16 ≠ 0)
     | 5 => decide (fld w 17 5 ≠ 0)
     | _ => decide (fld w 21 5 ≠ 0))

/-- The checks that every subop makes (R191, R197). -/
def State.tmCheck (s : State) (w : Insn) (site : Site) (sub : Nat) : Option Ran :=
  if tmIllegal w sub then some (.fault .illegalOp 0 s)
  else if site.slot.isNone && s.tmode then some (.fault .tileBound 0 s)
  else if site.slot.isSome && (decide (sub = 3) || decide (sub = 4)) then some (.fault .tileBound 0 s)
  else none

/-- TSHAPE (R192). -/
def State.shapeTile (s : State) (w : Insn) (site : Site) : State :=
  let t := tmTile w
  let s1 := (s.setF (TF_SHAPE t) 5 0 (fld w 17 12)).setF (TF_SHAPE t) 11 8 (fld w 11 8)
  (((s1.tileClear t).setB TF_INUSE t false).dropSlices t).clearStart site

/-- TZERO (R193): the rows and the width are those of the shape it sampled (R172). -/
def State.zeroTile (s : State) (w : Insn) (h wd : Nat) : State :=
  let t := tmTile w
  let rows := (List.range h).foldl (fun (m : Mem) r => Mem.clear m (t * 65536 + r * 1024) wd) s.tensor.tiles
  (({ s with tensor := { s.tensor with tiles := rows } } : State).setB TF_INUSE t true).dropSlices t

/-- An accumulator is released (R194): its pair with it while a compensated pair is in force. -/
def State.releaseAcc (s : State) (a : Nat) : State :=
  if s.errStore a then s
  else
    let s1 := s.setB MX_ACCINUSE a false
    if s.sumMode a = 1 ∧ a % 2 = 0 then s1.setB MX_ACCINUSE (a + 1) false else s1

/-- TRELEASE (R194). -/
def State.release (s : State) (w : Insn) : State :=
  ((List.range 16).filter (fun i => bit w i)).foldl (fun u i =>
    if bit w 21 then u.releaseAcc i else (u.setB TF_INUSE i false).dropSlices i) s

/-- TSCALE (R195): in core mode from register gs, in a slot from AUX. Its value stays against a write of the same ACLK. -/
def State.scaleAcc (s : State) (w : Insn) (site : Site) : State :=
  let o := MX_ACCSCALE (tmTile w)
  (s.setF o 31 0 (fld (if site.slot.isSome then site.aux else site.addr) 31 0)).wins o (maskOf 31 0)

/-- The effect of TSHAPE, TZERO, TRELEASE or TSCALE; h rows of wd bytes: the shape of its tile at acceptance. -/
def State.manageTile (s : State) (w : Insn) (site : Site) (h wd : Nat) : State :=
  match tmSub w with
  | 0 => s.shapeTile w site
  | 1 => s.zeroTile w h wd
  | 2 => s.release w
  | _ => s.scaleAcc w site

/-- TSHAPE (0), TZERO (1), TRELEASE (2), TSCALE (5): in a slot it takes effect in the ACLK after its acceptance (R196). -/
def State.tmanage (s : State) (w : Insn) (site : Site) (sub : Nat) : Ran :=
  match s.tmCheck w site sub with
  | some r => r
  | none =>
    if site.slot.isSome then
      .done (({ s with tensor := { s.tensor with tfBusy := s.time.toNat + 1 } } : State).startJob site 1 w (tmTile w) [(2, .effect)]
        (fun j => j))
    else .done (s.manageTile w site (s.tileRows (tmTile w)) (s.tileW (tmTile w)))

end Sys2Proof.Machine
end

