-- ==== Sys2Proof/Machine/VectorOps.lean ====
section
/-! DEFINITION. The vector engine: element operations, reductions, compares, mask logic, dray-mode steps, and its Yard accesses in
slots. Sections: R202 to R227. -/

namespace Sys2Proof.Machine

/-! ## Fields and extent (R202, R205, R207) -/

def vD (w : Insn) : Nat := fld w 25 21
def vA (w : Insn) : Nat := fld w 20 16
def vB (w : Insn) : Nat := fld w 15 11
def vM (w : Insn) : Nat := fld w 10 8
def vW (w : Insn) : Nat := fld w 7 6
def vFunc (w : Insn) : Nat := fld w 5 0

/-- Element size and register capacity of a width code. -/
def vSize (wc : Nat) : Nat := match wc with | 0 => 8 | 2 => 2 | _ => 4
def vCap (wc : Nat) : Nat := 2048 / vSize wc
/-- The floating-point format of a width code. -/
def vFmt (wc : Nat) : Fmt := match wc with | 0 => f64 | 1 => f32 | _ => f16

def State.vl (s : State) : Nat := s.f VX_VL 10 0

/-- C (R208). -/
def chunksC (n smax : Nat) : Nat := max 1 (cdiv (n * smax) 1024)

/-- Whether element e is active under mask register m, below n (R205). -/
def State.active (s : State) (m n e : Nat) : Bool := decide (e < n) && (s.mask m).getLsbD e
/-- The active elements of an extent. -/
def State.actives (s : State) (m n : Nat) : List Nat := (List.range n).filter (fun e => (s.mask m).getLsbD e)

/-- Element e of size k of a vector register. -/
def State.vElem (s : State) (v k e : Nat) : Nat := ofBytes (s.vRead v (k * e) k)

/-- n_ext of an instruction other than those of 0x23 under a VL, and the largest element size it reads or writes (R208); the extent
of VCVT is also limited by the capacity of its source width (log 15). -/
def vxExt (w : Insn) (vl : Nat) : Nat × Nat :=
  let wc := vW w
  let k := vSize wc
  match opcode w with
  | 0x21 => if vFunc w = 6 then (min vl (min (vCap (fld w 12 11)) (vCap wc)), max (vSize (fld w 12 11)) k) else (min vl (vCap wc), k)
  | 0x22 => if vFunc w = 8 then (min vl (if wc = 1 then 256 else 512), 8) else (min vl (vCap wc), k)
  | 0x24 => (min vl 256, 8)
  | 0x25 => if vFunc w = 0 ∨ 16 ≤ vFunc w then (0, k) else (min vl (vCap wc), k)
  | _ => (min vl (vCap wc), k)

/-- VDIV and VSQRT take 8 ACLK a chunk (R208). -/
def vxSlow (w : Insn) : Bool := (decide (opcode w = 0x20) || decide (opcode w = 0x21)) && decide (vFunc w = 3)

/-- C of an instruction under a VL. -/
def vxC (w : Insn) (vl : Nat) : Nat := chunksC (vxExt w vl).1 (vxExt w vl).2

/-- D of an instruction under a VL (R205, R208). -/
def vxD (w : Insn) (vl : Nat) : Nat :=
  if (vxExt w vl).1 = 0 then 1
  else if vxSlow w then 8 * vxC w vl
  else if opcode w = 0x22 ∧ vFunc w = 8 then (vB w + 1) * vxC w vl
  else vxC w vl

/-- A vector instruction is accepted (R214): it commits at t + D + L and occupies the station for D; in a slot it reads source
chunk c at t + 1 + c, or at t + 1 + 8c. -/
def State.vxStart (s : State) (site : Site) (w : Insn) (l : Nat) (wr : List (Nat × Byte)) (mask : Option (Nat × BitVec 1024 × BitVec 1024))
    (flags : FFlags) : State :=
  let now := s.time.toNat
  let d := vxD w s.vl
  let op : VxOp := ⟨w, s.core.pc, now + d + l, site.slot, wr, mask, flags⟩
  let s1 : State := { s with tensor := { s.tensor with vx := s.tensor.vx ++ [op], vxBusy := now + d } }
  (s1.later (d + l) .vxCommit).slotJob site 2 w 0
    ((List.range (vxC w s.vl)).map (fun c => (1 + (if vxSlow w then 8 * c else c), .chunk c))) (fun j => j)

/-- A fault of a vector instruction; VX_FAULTINFO is written for one of the core (R227), also where it faults because the tensor unit is
in timetable mode (DESIGN CHOICE, log 50: R227 speaks of core mode alone). -/
def State.vxFault (s : State) (w : Insn) (site : Site) (c : Cause) (fa : Word) (e : Nat) : Ran :=
  let func := if opcode w = 0x23 then fld w 15 14 else if opcode w = 0x24 then fld w 1 0 else vFunc w
  .fault c fa
    (if site.slot.isNone then s.wr VX_FAULTINFO (BitVec.ofNat 64 (opcode w * 2 ^ 20 + func * 2 ^ 14 + e % 1024)) else s)

/-- The checks of R209 and R29 before the effect. -/
def State.vxCheck (s : State) (w : Insn) (site : Site) (illegal : Bool) (body : Ran) : Ran :=
  if illegal then s.vxFault w site .illegalOp 0 0
  else if site.slot.isNone && s.tmode then s.vxFault w site .tileBound 0 0
  else body

/-- The bytes of element e of size k of register v. -/
def elemBytes (v k e x : Nat) : List (Nat × Byte) := ((List.range k).map (fun i => v * 2048 + k * e + i)).zip (toBytes k x)

/-- Results of the active elements of an extent become the destination's bytes at the commit, L after D. -/
def State.vxResults (s : State) (w : Insn) (site : Site) (v k n l : Nat) (f : Nat → Nat × FFlags) : Ran :=
  let rs := (s.actives (vM w) n).map (fun e => (e, f e))
  .done (s.vxStart site w l (rs.flatMap (fun r => elemBytes v k r.1 r.2.1)) none
    (rs.foldl (fun a r => a ||| r.2.2) 0))

/-! ## Element-wise operations (R208, R210 to R212) -/

def noFlags (x : Nat) : Nat × FFlags := (x, 0)
def wrap32 (z : Int) : Nat × FFlags := noFlags (ofInt32 z)

/-- A two-source operation on elements d, a, b of a width; none where the func or the width is not defined. -/
def vOp2 (func wc : Nat) : Option (Nat → Nat → Nat → Nat × FFlags) :=
  let f := vFmt wc
  if wc = 3 then
    match func with
    | 0x00 => some (fun _ a b => wrap32 (int32 a + int32 b))
    | 0x01 => some (fun _ a b => wrap32 (int32 a - int32 b))
    | 0x02 => some (fun _ a b => wrap32 (int32 a * int32 b))
    | 0x04 => some (fun _ a b => wrap32 (min (int32 a) (int32 b)))
    | 0x05 => some (fun _ a b => wrap32 (max (int32 a) (int32 b)))
    | 0x10 => some (fun _ a b => noFlags (a &&& b))
    | 0x11 => some (fun _ a b => noFlags (a ||| b))
    | 0x12 => some (fun _ a b => noFlags (a ^^^ b))
    | 0x13 => some (fun _ a b => noFlags (a * 2 ^ (b % 32) % 2 ^ 32))
    | 0x14 => some (fun _ a b => wrap32 (int32 a / 2 ^ (b % 32)))
    | 0x15 => some (fun _ a b => noFlags (a / 2 ^ (b % 32)))
    | _ => none
  else
    match func with
    | 0x00 => some (fun _ a b => f.fadd a b)
    | 0x01 => some (fun _ a b => f.fsub a b)
    | 0x02 => some (fun _ a b => f.fmul a b)
    | 0x03 => some (fun _ a b => f.fdiv a b)
    | 0x04 => some (fun _ a b => f.fmin a b)
    | 0x05 => some (fun _ a b => f.fmax a b)
    | 0x06 => some (fun d a b => f.ffma false d a b)
    | 0x07 => some (fun d a b => f.ffma true d a b)
    | 0x08 => some (fun _ a b => f.fscalb a b)
    | _ => none

/-- L of the element-wise operations (R208). -/
def vL (w : Insn) : Nat := if vxSlow w then 12 else 4

/-- An instruction of major opcode 0x20. -/
def State.vec2 (s : State) (w : Insn) (site : Site) (func : Nat) : Ran :=
  let wc := vW w
  let k := vSize wc
  let n := min s.vl (vCap wc)
  match vOp2 func wc with
  | none => s.vxFault w site .illegalOp 0 0
  | some f =>
    s.vxCheck w site (decide (opcode w ≠ 0x20) || decide (vFunc w ≠ func))
      (s.vxResults w site (vD w) k n (vL w)
        (fun e => f (s.vElem (vD w) k e) (s.vElem (vA w) k e) (s.vElem (vB w) k e)))

/-- A one-source operation other than VCVT. -/
def vOp1 (func wc : Nat) : Option (Nat → Nat × FFlags) :=
  let f := vFmt wc
  match func with
  | 0x00 => some noFlags
  | 0x01 => some (fun a => if wc = 3 then wrap32 (-(int32 a)) else noFlags (f.fneg a))
  | 0x02 => some (fun a => if wc = 3 then wrap32 (int32 a).natAbs else noFlags (f.fabs a))
  | 0x03 => if wc = 3 then none else some f.fsqrt
  | 0x04 => if wc = 3 then none else some f.frndi
  | 0x05 => if wc = 3 then none else some f.flogb
  | _ => none

/-- VCVT from one width to another (R212). -/
def vConvert (src dst : Nat) (x : Nat) : Nat × FFlags :=
  if dst = 3 then (vFmt src).toInt32 x
  else if src = 3 then (vFmt dst).ofInt (int32 x)
  else (vFmt src).cvt (vFmt dst) x

/-- An instruction of major opcode 0x21 other than VCVT. -/
def State.vec1 (s : State) (w : Insn) (site : Site) (func : Nat) : Ran :=
  let wc := vW w
  let k := vSize wc
  let n := min s.vl (vCap wc)
  match vOp1 func wc with
  | none => s.vxFault w site .illegalOp 0 0
  | some f =>
    s.vxCheck w site (decide (opcode w ≠ 0x21) || decide (vFunc w ≠ func) || decide (vB w ≠ 0))
      (s.vxResults w site (vD w) k n (vL w) (fun e => f (s.vElem (vA w) k e)))

/-- VCVT; its extent is also limited by the capacity of its source width (log 15). -/
def State.vcvt (s : State) (w : Insn) (site : Site) : Ran :=
  let src := fld w 12 11
  let dst := vW w
  let n := min s.vl (min (vCap src) (vCap dst))
  s.vxCheck w site (decide (opcode w ≠ 0x21) || decide (vFunc w ≠ 6) || decide (fld w 15 13 ≠ 0) || decide (src = dst))
    (s.vxResults w site (vD w) (vSize dst) n 4
      (fun e => vConvert src dst (s.vElem (vA w) (vSize src) e)))

/-! ## Reductions (R223, R224) -/

/-- One addition of the tree of VRSUM. -/
def sumPair (wc : Nat) (x y : Nat × FFlags) : Nat × FFlags :=
  if wc = 3 then wrap32 (int32 x.1 + int32 y.1)
  else
    let (r, fl) := (if wc = 0 then f64 else f32).fadd x.1 y.1
    (r, fl ||| x.2 ||| y.2)

/-- VRSUM: the fixed tree over every position of the register. -/
def State.vrsumVal (s : State) (v m wc n : Nat) : Nat × FFlags :=
  let k := vSize wc
  let leaf := fun e =>
    if s.active m n e then
      let x := s.vElem v k e
      if wc = 2 then f16.cvt f32 x else (x, 0)
    else (0, 0)
  let (r, fl) := (tree (sumPair wc) 10 ((List.range (vCap wc)).map leaf)).headD (0, 0)
  if wc = 2 then
    let (h, g) := f32.cvt f16 r
    (h, fl ||| g)
  else (r, fl)

/-- VRMAX and VRMIN over the active elements; none without one. -/
def State.vrextVal (s : State) (v m wc n : Nat) (isMax : Bool) : Option (Nat × FFlags) :=
  let f := vFmt wc
  let op := fun (a b : Nat) =>
    if wc = 3 then wrap32 (if isMax then max (int32 a) (int32 b) else min (int32 a) (int32 b))
    else if isMax then f.fmax a b else f.fmin a b
  match (s.actives m n).map (s.vElem v (vSize wc)) with
  | [] => none
  | x :: t => some (t.foldl (fun a y => let (r, fl) := op a.1 y; (r, a.2 ||| fl)) (op x x))

/-- VRSUM (0), VRMAX (1), VRMIN (2): the result goes to element 0 of vd. -/
def State.vred (s : State) (w : Insn) (site : Site) (func : Nat) : Ran :=
  let wc := vW w
  let k := vSize wc
  let n := min s.vl (vCap wc)
  let r := if n = 0 then none
    else if func = 0 then some (s.vrsumVal (vA w) (vM w) wc n)
    else s.vrextVal (vA w) (vM w) wc n (decide (func = 1))
  s.vxCheck w site (decide (opcode w ≠ 0x22) || decide (vFunc w ≠ func) || decide (vB w ≠ 0))
    (.done (s.vxStart site w (8 + Nat.log2 (vCap wc))
      (match r with | some x => elemBytes (vD w) k 0 x.1 | none => []) none (match r with | some x => x.2 | none => 0)))

/-- A partial of VSUMP (R224): a pair of FP32 values, or an INT32. -/
def State.partOf (s : State) (wc v e : Nat) : FV :=
  if wc = 1 then (f32.dec (s.vElem v 4 (2 * e))).add (f32.dec (s.vElem v 4 (2 * e + 1)))
  else let z := int32 (s.vElem v 4 e); .fin (decide (z < 0)) z.natAbs 0

/-- One result of VSUMP: nearest at each addition, zero is +0. -/
def State.sumpVal (s : State) (wc va p e : Nat) : Nat × FFlags :=
  let pair := fun v => [f32.dec (s.vElem v 4 (2 * e)), f32.dec (s.vElem v 4 (2 * e + 1))]
  let sig := fun v => wc = 1 && ((pair v).any FV.isSig || ((s.partOf wc v e).isNan && !(pair v).any FV.isNan))
  let step := fun (a : Nat × FFlags) (v : Nat) =>
    let x := s.partOf wc v e
    let y := f64.dec a.1
    let z := y.add x
    let (r, fl) := f64.ofFV z
    (r, a.2 ||| fl ||| (if sig v || (z.isNan && !y.isNan && !x.isNan) then flInvalid else 0))
  let first :=
    let x := s.partOf wc va e
    let (r, fl) := f64.ofFV x
    (r, fl ||| invalidIf (if wc = 1 then pair va else []) x)
  let (r, fl) := ((List.range (p - 1)).map (fun i => va + 1 + i)).foldl step first
  (f64.plusZero r, fl)

/-- VSUMP. -/
def State.vsump (s : State) (w : Insn) (site : Site) : Ran :=
  let wc := vW w
  let p := vB w + 1
  let n := min s.vl (if wc = 1 then 256 else 512)
  let rs := (s.actives (vM w) n).map (fun e => (e, s.sumpVal wc (vA w) p e))
  s.vxCheck w site (decide (opcode w ≠ 0x22) || decide (vFunc w ≠ 8) || (decide (wc ≠ 1) && decide (wc ≠ 3)) ||
      decide (31 < vA w + (p - 1)) || (decide (wc = 3) && decide (vD w % 2 ≠ 0)))
    (.done (s.vxStart site w 4
      (rs.flatMap (fun r => elemBytes (vD w + r.1 / 256) 8 (r.1 % 256) r.2.1)) none (rs.foldl (fun a r => a ||| r.2.2) 0)))

/-! ## VSETVL, VBCAST, compares, mask logic (R208, R209, R213) -/

/-- gb: a general register in core mode, AUX in a slot (R209). -/
def State.vGb (s : State) (w : Insn) (site : Site) : Word := if site.slot.isSome then site.aux else s.g (vB w)

/-- VSETVL: VL changes in the ACLK of acceptance. -/
def State.vsetvl (s : State) (w : Insn) (site : Site) : Ran :=
  s.vxCheck w site (decide (opcode w ≠ 0x25) || decide (vFunc w ≠ 0) || decide (vD w ≠ 0) || decide (vA w ≠ 0) ||
      decide (vM w ≠ 0) || decide (vW w ≠ 0))
    (.done (({ s with tensor := { s.tensor with vxBusy := s.time.toNat + 1 } } : State).setF VX_VL 10 0
      (min (s.vGb w site).toNat 1024) |>.count VX_CNT_DONE 1))

/-- VBCAST; in a slot width 00 widens AUX exactly (R209). -/
def State.vbcast (s : State) (w : Insn) (site : Site) : Ran :=
  let wc := vW w
  let k := vSize wc
  let n := min s.vl (vCap wc)
  let g := (s.vGb w site).toNat
  let x := if site.slot.isSome && decide (wc = 0) then (f32.cvt f64 (g % 2 ^ 32)).1 else g % 2 ^ (8 * k)
  s.vxCheck w site (decide (opcode w ≠ 0x25) || decide (vFunc w ≠ 1) || decide (vA w ≠ 0))
    (s.vxResults w site (vD w) k n 4 (fun _ => noFlags x))

/-- A compare of two elements (R213): 8 equal, 9 less, 10 less or equal. -/
def vCompare (func wc a b : Nat) : Bool × FFlags :=
  let f := vFmt wc
  match func with
  | 8 => if wc = 3 then (decide (a = b), 0) else f.cmpEq a b
  | 9 => if wc = 3 then (decide (int32 a < int32 b), 0) else f.cmpLt a b
  | _ => if wc = 3 then (decide (int32 a ≤ int32 b), 0) else f.cmpLe a b

/-- The destination mask of a compare or of mask logic is not one (R209). -/
def badMd (w : Insn) : Bool := decide (fld w 25 24 ≠ 0) || decide (fld w 23 21 = 0)

/-- The bits that a list names, and their values. -/
def maskBits (l : List (Nat × Bool)) : BitVec 1024 × BitVec 1024 :=
  l.foldl (fun x p => (setBit x.1 p.1 true, setBit x.2 p.1 p.2)) (0, 0)

/-- VCMPEQ, VCMPLT, VCMPLE. -/
def State.vcmp (s : State) (w : Insn) (site : Site) (func : Nat) : Ran :=
  let wc := vW w
  let k := vSize wc
  let n := min s.vl (vCap wc)
  let md := fld w 23 21
  let rs := (s.actives (vM w) n).map (fun e => (e, vCompare func wc (s.vElem (vA w) k e) (s.vElem (vB w) k e)))
  s.vxCheck w site (decide (opcode w ≠ 0x25) || decide (vFunc w ≠ func) || badMd w)
    (.done (s.vxStart site w 4 [] (some (md, maskBits (rs.map (fun r => (r.1, r.2.1)))))
      (rs.foldl (fun a r => a ||| r.2.2) 0)))

/-- VMAND (16), VMOR (17), VMNOT (18): over all 1,024 bits. -/
def State.vmask (s : State) (w : Insn) (site : Site) (func : Nat) : Ran :=
  let a := s.mask (vA w)
  let b := s.mask (vB w)
  let r := match func with | 16 => a &&& b | 17 => a ||| b | _ => ~~~a
  s.vxCheck w site (decide (opcode w ≠ 0x25) || decide (vFunc w ≠ func) || badMd w || decide (vW w ≠ 0) || decide (vM w ≠ 0) ||
      decide (7 < vA w) || decide (7 < vB w) || (decide (func = 18) && decide (vB w ≠ 0)))
    (.done (s.vxStart site w 2 [] (some (fld w 23 21, BitVec.allOnes 1024, r)) 0))

/-! ## Dray-mode steps (R225, R226) -/

/-- 2^k times a finite magnitude, truncated toward zero. -/
def truncScale (m : Nat) (e : Int) : Nat := if m = 0 then 0 else truncAt m e 0

/-- One byte of VSPLIT: slice sl of x under σ. -/
def splitByte (sl x sig : Nat) : Nat × FFlags :=
  let bad : Nat × FFlags := (0x7F, flInvalid)
  match f64.dec x, f64.dec sig with
  | .fin n m e, .fin ns ms es =>
    let (k, ix) := roundInt ms es
    if ix then bad
    else
      let σ : Int := signed ns (min k 8192)
      if m ≠ 0 ∧ σ ≤ topExp m e then bad
      else
        let hi := truncScale m (e - σ + 6 * sl)
        let lo := truncScale m (e - σ + 6 * sl - 6)
        ((signed n (hi - 64 * lo) % 256).toNat, 0)
  | _, _ => bad

/-- VSPLIT. -/
def State.vsplit (s : State) (w : Insn) (site : Site) : Ran :=
  let n := min s.vl 256
  let q := fld w 4 2
  let sl := fld w 7 5 + 1
  let sig := s.vElem (vB w) 8 0
  let rs := (s.actives (vM w) n).map (fun e => (e, splitByte sl (s.vElem (vA w) 8 e) sig))
  s.vxCheck w site (decide (opcode w ≠ 0x24) || decide (fld w 1 0 ≠ 0))
    (.done (s.vxStart site w 4
      (rs.map (fun r => (vD w * 2048 + 256 * q + r.1, BitVec.ofNat 8 r.2.1))) none (rs.foldl (fun a r => a ||| r.2.2) 0)))

/-- S · 2^(−6M) (R226). -/
def joinVal (x mm : Nat) : FV := let z := int32 x; .fin (decide (z < 0)) z.natAbs (-(6 * mm : Int))

/-- VJOINS (1) and VJOIN (2). -/
def State.vjoinOp (s : State) (w : Insn) (site : Site) (func : Nat) : Ran :=
  let n := min s.vl 256
  let mm := fld w 7 4
  s.vxCheck w site (decide (opcode w ≠ 0x24) || decide (fld w 1 0 ≠ func) || decide (vB w ≠ 0) || decide (mm = 0) ||
      decide (fld w 3 2 ≠ 0))
    (s.vxResults w site (vD w) 8 n 4 (fun e =>
      let t := joinVal (s.vElem (vA w) 4 e) mm
      if func = 1 then (f64.plusZero (f64.ofFV t).1, 0)
      else
        let d := f64.dec (s.vElem (vD w) 8 e)
        let r := d.add t
        let (x, fl) := f64.ofFV r
        (f64.plusZero x, fl ||| invalidIf [d] r)))

/-! ## VLD, VST, VGATH, VSCAT (R218 to R222) -/

def vmSub (w : Insn) : Nat := fld w 15 14
def vmW (w : Insn) : Nat := fld w 13 12
def vmM (w : Insn) : Nat := fld w 11 9
def vmNB (w : Insn) : Nat := fld w 8 5
def vmStore (w : Insn) : Bool := decide (vmSub w = 1) || decide (vmSub w = 3)
def vmIndexed (w : Insn) : Bool := decide (2 ≤ vmSub w)

/-- Encoding rules of 0x23 (R222). -/
def vmIllegal (w : Insn) (sub : Nat) : Bool :=
  decide (opcode w ≠ 0x23) || decide (vmSub w ≠ sub) ||
    (if vmIndexed w then decide (9 < vmNB w) else decide (vA w ≠ 0) || decide (vmNB w ≠ 0))

/-- n_ext of 0x23 (R218). -/
def State.vmExt (s : State) (w : Insn) : Nat :=
  let n := min s.vl (vCap (vmW w))
  if vmIndexed w then min n 512 else n

/-- The elements whose addresses are checked, and the address of each: all of the extent, or the active ones (R218). -/
def State.vmAddrs (s : State) (w : Insn) (base : Word) : List (Nat × Word) :=
  let k := vSize (vmW w)
  let n := s.vmExt w
  if vmIndexed w then
    (s.actives (vmM w) n).map (fun e => (e, base + BitVec.ofInt 64 (int32 (s.vElem (vA w) 4 e) * k)))
  else (List.range n).map (fun e => (e, base + BitVec.ofNat 64 (e * k)))

/-- The entries of an access by their banks (R219): the lines of the extent, or the active elements; key, bank. -/
def vmEntries (w : Insn) (offs : List (Nat × Nat)) : List (Nat × Nat) :=
  if vmIndexed w then offs.map (fun q => (q.1, bankOf q.2)) else lineBanks (vSize (vmW w)) (offs.map (·.2))

/-- When the entries issue, counted from t (R219): the cycle after the last, and each entry's key, bank and cycle. -/
def vmIssue (w : Insn) (offs : List (Nat × Nat)) : Nat × List (Nat × Nat × Nat) :=
  issueBanks 1024 (vmEntries w offs) (if vmStore w then 2 else 1) []

/-- A load of Yard bytes is accepted: it commits 12 ACLK after its D (R219, R221). -/
def State.vmBegin (s : State) (site : Site) (w : Insn) (wr : List (Nat × Byte)) (d : Nat) : State :=
  let now := s.time.toNat
  let s1 : State := { s with tensor := { s.tensor with vxBusy := now + d } }
  if vmStore w then s1
  else
    let op : VxOp := ⟨w, s.core.pc, now + d + 12, site.slot, wr, none, 0⟩
    ({ s1 with tensor := { s1.tensor with vx := s1.tensor.vx ++ [op] } } : State).later (d + 12) .vxCommit

/-- The check of R218, R221 and R222 that an access in a slot fails: its cause; a window violation, for which the manual gives no
cause code, is `some none`. -/
def State.vmSlotBad (s : State) (w : Insn) (base : Nat) (l : List (Nat × Word)) : Option (Option Cause) :=
  let k := vSize (vmW w)
  let win := 2 ^ vmNB w
  let inWin := fun (a : Nat) => decide (bankOf base ≤ bankOf a) && decide (bankOf a < bankOf base + win)
  if base % k ≠ 0 ∨ l.any (fun p => decide (p.2.toNat % k ≠ 0)) then some (some .align)
  else if l.any (fun p => !s.owned (if vmStore w then ttWrites else ttReads) p.2.toNat k) then some (some .yardOwner)
  else if vmIndexed w ∧ (511 < bankOf base + win - 1 ∨ l.any (fun p => !inWin p.2.toNat)) then some none
  else none

/-- The parts of an access once its addresses have passed: its entries at their cycles. -/
def vmParts (w : Insn) (offs : List (Nat × Nat)) : List (Nat × Micro) :=
  (vmIssue w offs).2.map (fun e =>
    let off := if vmIndexed w then ((offs.find? (fun q => decide (q.1 = e.1))).map (·.2)).getD 0 else 64 * e.1
    (e.2.2, if vmStore w then .store e.1 off else .load e.1 off (if vmIndexed w then vSize (vmW w) else 64)))

/-- 0x23 in a slot (R218, R219, R221, R222): VLD and VST are checked at issue; of VGATH and VSCAT the index is read, and every
address checked, in t + 1. With no extent D is 1 (R205), whatever R221's formula gives (log 51). -/
def State.vmSlot (s : State) (w : Insn) (site : Site) : Ran :=
  let base := fld site.addr 28 0
  let l := s.vmAddrs w (BitVec.ofNat 64 base)
  let offs := l.map (fun p => (p.1, p.2.toNat))
  if vmIndexed w then
    .done ((s.vmBegin site w [] (if s.vmExt w = 0 then 1 else s.vmExt w + (if vmStore w then 2 else 1))).startJob site 2 w 0
      [(1, .index)] (fun j => j))
  else
    match s.vmSlotBad w base l with
    | some c => s.vxFault w site (c.getD .align) 0 0
    | none =>
      .done ((s.vmBegin site w [] (if offs.isEmpty then 1 else (vmIssue w offs).1)).startJob site 2 w 0
        ((1, .index) :: vmParts w offs) (fun j => j))

/-- D of a vector instruction in a slot and the bank cycles it takes, by VL and the offsets of its elements (R76, R216, R219,
R221). -/
def vxPlan (w : Insn) (vl base : Nat) : Nat × List (Nat × Nat) :=
  if opcode w = 0x23 then
    let k := vSize (vmW w)
    let m := min vl (vCap (vmW w))
    if vmIndexed w then
      let m' := min m 512
      let win := (List.range (2 ^ vmNB w)).map (bankOf base + ·)
      let from_ := if vmStore w then 2 else 1
      (if m' = 0 then 1 else m' + from_, win.flatMap (fun b => (List.range m').map (fun i => (b, from_ + i))))
    else
      let r := vmIssue w ((List.range m).map (fun e => (e, base + e * k)))
      (if m = 0 then 1 else r.1, r.2.map (fun e => (e.2.1, e.2.2)))
  else (vxD w vl, [])

/-! ## What a VX slot executes, and what it has read (R68, R214) -/

/-- What a VX slot executes. -/
def State.vxBody (s : State) (w : Insn) (site : Site) : Ran :=
  let f := vFunc w
  match opcode w with
  | 0x20 => s.vec2 w site f
  | 0x21 => if f = 6 then s.vcvt w site else if f < 6 then s.vec1 w site f else .fault .illegalOp 0 s
  | 0x22 => if f = 8 then s.vsump w site else if f < 3 then s.vred w site f else .fault .illegalOp 0 s
  | 0x23 => s.vxCheck w site (vmIllegal w (vmSub w)) (s.vmSlot w site)
  | 0x24 =>
    match fld w 1 0 with
    | 0 => s.vsplit w site
    | 1 => s.vjoinOp w site 1
    | 2 => s.vjoinOp w site 2
    | _ => .fault .illegalOp 0 s
  | 0x25 =>
    if f = 0 then s.vsetvl w site
    else if f = 1 then s.vbcast w site
    else if 8 ≤ f ∧ f ≤ 10 then s.vcmp w site f
    else if 16 ≤ f ∧ f ≤ 18 then s.vmask w site f
    else .fault .illegalOp 0 s
  | _ => .fault .illegalOp 0 s

/-- The source registers of an instruction, with the size of an element in each. -/
def vxSources (w : Insn) : List (Nat × Nat) :=
  let k := vSize (vW w)
  match opcode w with
  | 0x20 => [(vA w, k), (vB w, k), (vD w, k)]
  | 0x21 => [(vA w, if vFunc w = 6 then vSize (fld w 12 11) else k)]
  | 0x22 => if vFunc w = 8 then (List.range (vB w + 1)).map (fun i => (vA w + i, if vW w = 1 then 8 else 4)) else [(vA w, k)]
  | 0x24 => if fld w 1 0 = 0 then [(vA w, 8), (vB w, 8)] else [(vA w, 4), (vD w, 8)]
  | _ => [(vA w, k), (vB w, k)]

/-- Chunk c of the sources as it is read: address in the register file, bytes. -/
def State.readChunk (s : State) (w : Insn) (vl c : Nat) : List (Nat × List Byte) :=
  let n := 1024 / (vxExt w vl).2
  (vxSources w).map (fun p => (p.1 * 2048 + p.2 * (n * c), s.vRead p.1 (p.2 * (n * c)) (p.2 * n)))

/-- What an instruction gives that has read the register bytes and the masks: its bytes, its mask, its flags. -/
def State.vxGives (s : State) (w : Insn) (site : Site) (vl : Nat) (buf : List (Nat × List Byte)) (mask : List (BitVec 1024)) :
    Option VxOp :=
  let view : State := { s with tensor := { s.tensor with
    vregs := buf.foldl (fun m p => m.write p.1 p.2) [], masks := Vector.ofFn (fun i => mask.getD i.val 0) } }
  match (view.setF VX_VL 10 0 vl).vxBody w site with
  | .done t => t.tensor.vx.getLast?
  | _ => none

end Sys2Proof.Machine
end

