-- ==== Sys2Proof/Machine/Jobs.lean ====
section
/-! DEFINITION. The operations of slots at their cycles: what each part of one does, and what ends it; the commits of slot
instructions; how the leg cycle moves on. Sections: R23, R64, R98, R114 to R116, R125, R132, R173, R174, R185, R186, R196, R214,
R216, R218 to R222, R254, R456. -/

namespace Sys2Proof.Machine

/-! ## Banks (R64, R456) -/

/-- A slot's access in this cycle gets the main ports of its banks; none where one is not served, or taken by another slot. -/
def State.takeBanks (s : State) (bs : List Nat) : Option State :=
  let l := bs.map (fun b => (b, s.cycle))
  if l.all (fun p => s.served 5 0 p.1 p.2 && !s.seq.occupied.contains p) then
    some { s with seq := { s.seq with occupied := s.seq.occupied ++ l } }
  else none

/-- A slot's operation is discarded as it runs (R23, R456): what is outstanding of it leaves, and COLLISION is recorded. -/
def State.killJob (s : State) (j : Job) (cause : Option Nat) : State :=
  let mine := fun (x : Option SlotAt) => decide (x = j.at_)
  let s1 := (s.undue .mxCommit ((s.tensor.mx.filter (fun o => mine o.slot)).map (·.due))).undue .vxCommit
    ((s.tensor.vx.filter (fun o => mine o.slot)).map (·.due))
  let s2 : State := { s1 with tensor := { s1.tensor with
    mx := s1.tensor.mx.filter (fun o => !mine o.slot), vx := s1.tensor.vx.filter (fun o => !mine o.slot) } }
  match j.at_ with
  | some a => s2.collision j.st a.lane.toNat a.idx.toNat cause
  | none => s2

/-! ## The parts (R114, R185, R186, R196, R214, R219) -/

/-- Bytes held under a key. -/
def Job.held (j : Job) (key : Nat) : List Byte := ((j.buf.find? (fun p => decide (p.1 = key))).map (·.2)).getD []

/-- n bytes at a Yard offset, from the lines of wave v that were read. -/
def Job.fromLines (j : Job) (v off n : Nat) : List Byte :=
  (List.range ((off + n - 1) / 64 + 1 - off / 64)).flatMap (fun i => j.held (waveKey v (off / 64 + i))) |> fun l =>
    (l.drop (off % 64)).take n

/-- The rows of wave v of a TLD or TST, with their offsets. -/
def Job.waveRows (j : Job) (v : Nat) : List (Nat × Nat) :=
  (List.range (min 16 (j.h - 16 * v))).map (fun i => (16 * v + i, (slotRow j.site (16 * v + i)).toNat))

/-- The rows of wave v of a TLD are written to the tile. -/
def State.waveLoad (s : State) (j : Job) (v : Nat) : State :=
  let c := convOf j.conv
  (j.waveRows v).foldl (fun t p => t.loadRow c j.w p.1 (j.fromLines v p.2 (c.wm j.wd))) s

/-- The rows of wave v of a TST are read from the tile: what memory takes, with the flags of each row. -/
def State.waveStore (s : State) (j : Job) (v : Nat) : List (Nat × List Byte) :=
  (j.waveRows v).map (fun p =>
    let (bs, clamp, nan, fl) := s.storeRow (convOf j.conv) j.w p.1 j.wd
    (p.1, BitVec.ofNat 8 ((if clamp then 1 else 0) + (if nan then 2 else 0) + (if fl then 4 else 0)) :: bs))

/-- A line of wave v of a TST is written: the bytes of its rows in ascending order; a row whose last line this is has been written
(R178). -/
def State.storeLine (s : State) (j : Job) (v line : Nat) : State :=
  let later := fun (l : Nat) => j.todo.any (fun p => match p.2 with | .store k _ => decide (k = waveKey v l) | _ => false)
  (j.waveRows v).foldl (fun t p =>
    let bs := j.held p.1
    let n := bs.length - 1
    let lo := max p.2 (64 * line)
    let hi := min (p.2 + n) (64 * line + 64)
    if lo < hi then
      let t1 := t.yWrite lo (((bs.drop 1).drop (lo - p.2)).take (hi - lo))
      if (List.range ((p.2 + n - 1) / 64 + 1 - p.2 / 64)).any (fun i => decide (p.2 / 64 + i ≠ line) && later (p.2 / 64 + i)) then t1
      else
        let fl := (bs.headD 0).toNat
        t1.rowFlags (decide (fl % 2 = 1)) (decide (fl / 2 % 2 = 1)) (decide (fl / 4 = 1))
    else t) s

/-- The active elements of a VST whose bytes lie in a line are written, or one element of a VSCAT. -/
def State.storeElems (s : State) (j : Job) (key off : Nat) : State :=
  let k := vSize (vmW j.w)
  let n := min j.vl (vCap (vmW j.w))
  let on := fun (e : Nat) => (j.mask.getD (vmM j.w) 0).getLsbD e
  let v := j.held 0
  let put := fun (t : State) (e o : Nat) => t.yWrite o ((v.drop (k * e)).take k)
  if vmIndexed j.w then put s key off
  else
    let base := fld j.addr 28 0
    (List.range n).foldl (fun t e => if on e ∧ off ≤ base + e * k ∧ base + e * k < off + 64 then put t e (base + e * k) else t) s

/-- The register bytes of a VLD or VGATH from what it has read. -/
def Job.loaded (j : Job) : List (Nat × Byte) :=
  let k := vSize (vmW j.w)
  let n := min j.vl (vCap (vmW j.w))
  let bytes := fun (e : Nat) (bs : List Byte) => ((List.range k).map (fun i => vD j.w * 2048 + k * e + i)).zip bs
  if vmIndexed j.w then j.buf.flatMap (fun p => bytes p.1 p.2)
  else
    let base := fld j.addr 28 0
    ((List.range n).filter (fun e => (j.mask.getD (vmM j.w) 0).getLsbD e)).flatMap (fun e =>
      bytes e (((j.held ((base + e * k) / 64)).drop ((base + e * k) % 64)).take k))

/-- The masks as they stand; m0 is all ones (R204). -/
def State.allMasks (s : State) : List (BitVec 1024) := (List.range 8).map s.mask

/-- The index of a gather or scatter, the source of a store and the masks are read (R218 to R222); every address of an indexed
access is checked, and its entries take their cycles. The job, or the check that failed. -/
def State.readIndex (s : State) (j : Job) : Except (Option Cause) Job :=
  let w := j.w
  let k := vSize (vmW w)
  let n := min j.vl (vCap (vmW w))
  let j1 := { j with mask := s.allMasks, buf := j.buf ++ (if vmStore w then [(0, s.vRead (vD w) 0 (k * n))] else []) }
  if vmIndexed w then
    let l := (s.setF VX_VL 10 0 j.vl).vmAddrs w (BitVec.ofNat 64 (fld j.addr 28 0))
    match s.vmSlotBad w (fld j.addr 28 0) l with
    | some c => .error c
    | none =>
      .ok (j1.plan (vmParts w (l.map (fun p => (p.1, p.2.toNat)))))
  else .ok j1

/-- Whether a job has a further part of a kind to come. -/
def Job.more (j : Job) (p : Micro → Bool) : Bool := j.todo.any (fun q => p q.2)
def Micro.isLoad : Micro → Bool | .load _ _ _ => true | _ => false
def Micro.isStore : Micro → Bool | .store _ _ => true | _ => false
def Micro.isChunk : Micro → Bool | .chunk _ => true | _ => false

/-- The frame of a SEND whose lines have been read (R307): it leaves at t + 8. -/
def State.sendRead (s : State) (j : Job) : State :=
  let w0 := fld j.aux 28 0 / 256 * 2 ^ 16 + fld j.w 17 14 * 2 ^ 6 + fld j.w 13 8
  let w1 := fld j.w 2 0 * 2 ^ 42 + s.pins.blk.toNat * 2 ^ 38 + s.pins.pkg.toNat * 2 ^ 32 + (s.cycOf j.t + 8) % 2 ^ 27
  let f := mkFrame w0 w1 (j.buf.flatMap (·.2))
  { s with relay := { s.relay with tx := s.relay.tx.map (fun x =>
      if x.lane = fld j.w 2 0 ∧ x.at_ = j.t then { x with frame := some f } else x) } }

/-- What follows the read of a stretch of the Yard: the last one gives a VLD or VGATH its bytes, and a SEND its frame. -/
def State.afterLoad (s : State) (j : Job) : State :=
  if j.more Micro.isLoad then s
  else if j.st = 2 then s.onVx j.at_ (fun o => { o with wr := j.loaded })
  else if j.st = 4 then s.sendRead j
  else s

/-- The bank a slot reaches in the cycle after its issue (R76). -/
def WordOp.banks : WordOp → List Nat
  | .pair _ src _ => [bankOf src]
  | .tag off _ => [bankOf off]
  | .ctr _ _ _ => []
  | .publish _ off => [bankOf off]
  | .expect off => [bankOf off]
  | .stage _ off => [bankOf off]

/-- A slot's word, tag or counter is reached (R71 to R74, R89, R243, R280): TAKE and PEEK copy a full SRC, which TAKE sets empty, and PUT
copies SRC whatever its tag; the copy follows in t + d of SRC's distance class (R76); otherwise HN_YS_MISS counts (R72). -/
def State.wordStep (s : State) (j : Job) (a : SlotAt) (k : WordOp) : Job × State :=
  let who := idLane a.lane.toNat
  match k with
  | .pair op src dst =>
    let u := s.seeWord src
    if op = 3 ∨ s.tag src then
      (j.plan [(distClass 1 src, .put dst (s.yWord src))], if op = 1 then u.retag src false who opTake else u)
    else (j, u.count HN_YS_MISS 1)
  | .tag off b => (j, (s.seeWord off).retag off b who (if b then opFill else opEmpty))
  | .ctr inc i v => (j, if inc then s.ctrInc i v who else s.ctrDec i v who)
  | .publish m w =>
    let v := if s.tag w then s.setB HN_MAIL_STATUS (32 + m) true else s
    let v1 := if s.mailEn m ∧ s.mailD m < s.cycle then v.setB HN_MAIL_STATUS (16 + m) true else v
    (j, (v1.seeWord w).retag w true who opFill)
  | .expect w =>
    let v := s.seeWord w
    (j, if s.tag w then v else v.guard 5 (a.lane.toNat + 16) a.idx.toNat)
  | .stage c off => (j, s.stage c off)

/-- The copy of a TAKE, PEEK or PUT reaches DST (R71, R76); a PUT only where it is then empty. -/
def State.putWord (s : State) (a : SlotAt) (test : Bool) (off : Nat) (v : Word) : State :=
  let u := if test then s.seeWord off else s
  if test ∧ s.tag off then u.count HN_YS_MISS 1
  else (u.yWrite off (toBytes 8 v.toNat)).refill off (idLane a.lane.toNat) opPut

/-- One part of a job: the job as it goes on, none where it is discarded, and the state. -/
def State.micro (s : State) (j : Job) (m : Micro) : Option Job × State :=
  let lost := fun (_ : Unit) => ((none, s.killJob j none) : Option Job × State)
  let n := fld j.aux 13 8
  let f := fld j.aux 5 0
  match m with
  | .cell c =>
    match s.tensor.mx.find? j.isMx with
    | none => (some j, s)
    | some op =>
      let (op1, s1) := if opcode j.w = 0x29 then s.mvFeed op f n c (j.held (c / mvR j.w)) else s.tmmaFeed op j.h j.h2 c
      (some { j with buf := j.buf.filter (fun p => decide ((c + 1) / mvR j.w ≤ p.1)) }, s1.onMx j (fun _ => op1))
  | .beat b =>
    match (if j.at_.isNone then some s else s.takeBanks ((List.range (8 * (n + 1))).map (8 * f + ·))) with
    | none => lost ()
    | some s1 =>
      let (bs, s2) := s1.mvBeat j.addr.toNat f n b
      (some { j with buf := j.buf ++ [(b, bs)] }, s2)
  | .groupRead g =>
    (some (s.groupIn j g), s)
  | .groupWrite g =>
    match s.groupOut j g with
    | (none, j1, s1) => (some j1, s1)
    | (some t, _, _) => (none, s.drainTrap j t)
  | .waveWrite v => (some j, s.waveLoad j v)
  | .waveRead v => (some { j with buf := j.buf ++ s.waveStore j v }, s)
  | .load key off k =>
    match s.takeBanks [bankOf off] with
    | none => lost ()
    | some s1 =>
      let (bs, s2) := s1.yRead off k
      let j1 := { j with buf := j.buf ++ [(key, bs)] }
      (some j1, s2.afterLoad j1)
  | .store key off =>
    match s.takeBanks [bankOf off] with
    | none => lost ()
    | some s1 =>
      if j.st = 1 then (some j, s1.storeLine j (key / 2 ^ 26) (key % 2 ^ 26))
      else
        let s2 := s1.storeElems j key off
        (some j, if j.more Micro.isStore then s2 else s2.count VX_CNT_DONE 1)
  | .chunk c =>
    let j1 := { j with buf := j.buf ++ s.readChunk j.w j.vl c, mask := if c = 0 then s.allMasks else j.mask }
    if j1.more Micro.isChunk then (some j1, s)
    else
      match s.vxGives j.w j.site j.vl j1.buf j1.mask with
      | some r => (some j1, s.onVx j.at_ (fun o => { o with wr := r.wr, mask := r.mask, flags := r.flags }))
      | none => (some j1, s)
  | .index =>
    match s.readIndex j with
    | .error (some c) => (none, s.killJob j (some (causeCode c)))
    | .error none => let (x, s1) := s.free; (none, s1.killJob j (some (fld x 5 0)))
    | .ok j1 => (some j1, if vmStore j.w ∧ !j1.more Micro.isStore then s.count VX_CNT_DONE 1 else s)
  | .word k =>
    match j.at_, s.takeBanks k.banks with
    | some a, some s1 => let (j1, s2) := s1.wordStep j a k; (some j1, s2)
    | _, _ => lost ()
  | .put off v =>
    match j.at_, s.takeBanks [bankOf off] with
    | some a, some s1 => (some j, s1.putWord a (decide (j.w ≠ 0)) off v)
    | _, _ => lost ()
  | .effect => (some j, s.manageTile j.w j.site j.h j.wd)

/-- The parts of one job due by `now`, of those that are seen from a cycle on, or of those that take place in it. -/
def jobParts (late : Bool) (now : Nat) : Nat → Job → State → Option Job × State
  | 0, j, s => (some j, s)
  | n + 1, j, s =>
    match j.todo with
    | [] => (none, s)
    | (t, m) :: r =>
      if t ≤ now ∧ m.late = late then
        match s.micro { j with todo := r } m with
        | (some j1, s1) => jobParts late now n j1 s1
        | (none, s1) => (none, s1)
      else (some j, s)

/-- The parts of one job due by `now`; a job that another one has ended does nothing more. -/
def State.jobStep (late : Bool) (now : Nat) (s : State) (j : Job) : State :=
  if !s.tensor.jobs.contains j then s
  else
    let (j1, t) := jobParts late now (2 * j.todo.length + 1100) j s
    { t with tensor := { t.tensor with jobs := t.tensor.jobs.flatMap (fun x => if x = j then j1.toList else [x]) } }

/-- The parts of the jobs of some stations due by `now`. -/
def State.jobsDue (s : State) (late : Bool) (now : Nat) (on : Nat → Bool) : State :=
  (s.tensor.jobs.filter (fun j => on j.st)).foldl (State.jobStep late now) s

/-! ## Commits (R109, R114, R214, R216) -/

/-- What happens in the cycle that ends. -/
def State.inLast (s : State) (f : State → State) : State :=
  let t := f { s with cycle := s.cycle - 1, time := s.time - 1 }
  { t with cycle := s.cycle, time := s.time }

/-- The commit of an MX instruction, if it has not been given up. -/
def State.mxDone (s : State) (op : MxOp) : State :=
  if !s.tensor.mx.contains op then s else if op.slot.isNone then s.coreCommit op else ((s.dropMx op).commitOp op).2
/-- The commit of a vector instruction. -/
def State.vxDone (s : State) (op : VxOp) : State := if s.tensor.vx.contains op then (s.dropVx op).vxApply op else s

/-- What instructions write to the tensor unit that is seen from `now` on: the drain port before the TF port (R173), and then the commits
asked for (R216). -/
def State.lateTo (s : State) (now : Nat) (mx vx : Bool) : State :=
  let s1 := (s.jobsDue true now (fun st => decide (st = 0))).jobsDue true now (fun st => decide (st ≠ 0))
  let s2 := if mx then (s1.tensor.mx.filter (fun o => decide (o.due < now))).foldl State.mxDone s1 else s1
  if vx then (s2.tensor.vx.filter (fun o => decide (o.due < now))).foldl State.vxDone s2 else s2

/-! ## The leg cycle moves on -/

/-- The commit cycles of instructions in flight. -/
def State.commits (s : State) : List Nat := s.tensor.mx.map (·.due) ++ s.tensor.vx.map (·.due)

/-- Everything due by the present cycle (log 2): first what was written in the cycle before, last what they read in this one. -/
def State.lines (s : State) : State :=
  let c := s.cycle
  let s0 := if s.tensor.jobs.isEmpty ∧ s.commits.isEmpty then s else s.inLast (fun t => t.lateTo s.time.toNat true true)
  let s1 := s0.mail.draws.foldl (fun t d => drawLines (d.len - d.next) d.k c t) s0
  let s2 := s1.landDue c
  let now := s2.time.toNat
  let s3 := s2.yardMoves.foldl (fun t m => lineMoves (2 * (now + 1 - m.2.2.2.2.2)) m.1 now t) s2
  ((if s3.relay.tx.isEmpty then s3 else s3.txDue now).jobsDue false now (fun _ => true)).landDone

/-- The next cycle in which a line is due. -/
def State.lineDue (s : State) : Option Nat :=
  let l := (s.mail.draws.filter (fun d => decide (d.next < d.len))).map (fun d => d.dl + 1 + d.next) ++
    s.relay.landing.map (fun f => f.land + f.next) ++
    (s.relay.tx.filter (fun x => x.frame.isSome)).map (fun x => s.cycOf (x.at_ + 8)) ++
    s.yardMoves.flatMap (fun (_, d, _, _, n, t) =>
      (if d.next < n then [s.cycOf (t + 2 + d.next)] else []) ++ (d.buf.take 1).map (fun p => s.cycOf (t + 15 + p.1))) ++
    s.tensor.jobs.flatMap (fun j => (j.todo.take 1).map (fun p => s.cycOf p.1)) ++ s.commits.map (fun d => s.cycOf (d + 1))
  match l with
  | [] => none
  | a :: t => some (t.foldl min a)

/-- The m-th copy of a SYNC_DUMP (R254): a waiting-room entry, 16 counters or a mailbox. -/
def State.dumpPiece (s : State) (m : Nat) : List Byte :=
  if m < 4096 then (entryWords (s.yard.room.find? (fun e => decide (e.no = m)))).flatMap (fun w => toBytes 8 w.toNat)
  else if m < 4352 then (List.range 16).flatMap (fun j => toBytes 4 (s.ctr (16 * (m - 4096) + j)))
  else toBytes 8 (s.mboxVal (m - 4352)).toNat ++ toBytes 8 (if s.mboxFull (m - 4352) then 1 else 0)

/-- The copies made in a dump of so many bytes. -/
def dumpNext (len : Nat) : Nat :=
  if len < 0x20040 then (len - 0x40) / 32 else if len < 0x24040 then 4096 + (len - 0x20040) / 64 else 4352 + (len - 0x24040) / 16

/-- A SYNC_DUMP that is being collected makes the copies due by now (R254). -/
def State.collect (s : State) : State :=
  match s.coach.dump with
  | none => s
  | some (q, dst, bs) =>
    let m := dumpNext bs.length
    let k := min (s.time.toNat + 1 - ofBytes ((bs.drop 8).take 8)) 4608 - m
    { s with coach := { s.coach with dump := some (q, dst, bs ++ (List.range k).flatMap (fun i => s.dumpPiece (m + i))) } }

/-- The leg cycle and YD_TIME move on to cycle c. -/
def State.atCycle (s : State) (c : Nat) : State :=
  if c ≤ s.cycle then s
  else ({ s with cycle := c, time := s.time + BitVec.ofNat 64 (c - s.cycle) } : State).collect

def advanceGo : Nat → Nat → State → State
  | 0, c, s => (s.atCycle c).lines
  | n + 1, c, s =>
    match s.lineDue with
    | some d => if d ≤ c then advanceGo n c ((s.atCycle d).lines) else s.atCycle c
    | none => s.atCycle c

/-- The block reaches leg cycle c, every line on the way read or written at its cycle; a past cycle is now (log 1). -/
def State.advanceTo (s : State) (c : Nat) : State := advanceGo (c + 1 - s.cycle) c s

end Sys2Proof.Machine
end

