-- ==== Sys2Proof/Machine/Waybill.lean ====
section
/-! DEFINITION. The Waybill engine: descriptors and their checks, queueing by WBQUEUE and by the host, ATS, bursts and their
responses, completion, abort, and the scheduled channels. Sections: R258 to R295, R36, R417. -/

namespace Sys2Proof.Machine

/-- A descriptor becomes the active one: WB_CH_USER shows its USER, and it waits at its gate until the counter holds VALUE
(R272). -/
def State.gateCheck (s : State) (c : Nat) (polling : Bool) : State :=
  match (s.chan c).active with
  | none => s
  | some d =>
    if !d.gate? ∨ d.atsSrc.isSome ∨ d.atsDst.isSome ∨ d.ended.isSome then s
    else
      let i := fld d.gate 11 0
      if fld d.gate 63 32 ≤ s.ctr i then
        (s.setActive c (some { d with gated := false })).leaveAll (idChan c)
      else
        let (s1, poll) := (s.setActive c (some { d with gated := true })).enroll (.ctr i) (idChan c) (fld d.gate 63 32) polling
        if poll then s1.later 68 (.pollRetry (BitVec.ofNat 8 (idChan c))) else s1

def State.begin (s : State) (c : Nat) : State :=
  match (s.chan c).active with
  | none => s
  | some d => (s.setF (WB_CH_USER c) 63 32 d.user).gateCheck c false

/-! ## ATS (R289 to R291) -/

/-- The piece at a stream position: address, bytes left in it, pair. -/
def pieceAt : List (Nat × Nat × Nat) → Nat → Option (Nat × Nat × Nat)
  | [], _ => none
  | (a, n, i) :: t, p => if p < n then some (a + p, n - p, i) else pieceAt t (p - n)

/-- The piece at a stream position is translated: its first l bytes lie at h. -/
def retarget (h l : Nat) : List (Nat × Nat × Nat) → Nat → List (Nat × Nat × Nat)
  | [], _ => []
  | (a, n, i) :: t, p =>
    if p = 0 then (h, l, i) :: (if l < n then (a + l, n - l, i) :: t else t) else (a, n, i) :: retarget h l t (p - n)

/-- The lowest host-virtual address of a descriptor not yet translated, source first. -/
def Desc.atsNext (d : Desc) : Option (Nat × Nat × Nat) :=
  match d.atsSrc, d.atsDst with
  | some p, _ => pieceAt d.srcP p
  | none, some p => pieceAt d.dstP p
  | none, none => none

/-- The descriptor of a channel whose translation request is in flight: in the active set, or else in the shadow set. -/
def Chan.atsWaits (h : Chan) : Option (Bool × Desc) :=
  let w := fun (d : Desc) => (d.atsSrc.isSome || d.atsDst.isSome) && d.ended.isNone
  match h.active, h.shadow with
  | some d, e => if w d then some (true, d) else e.bind (fun x => if w x then some (false, x) else none)
  | none, e => e.bind (fun x => if w x then some (false, x) else none)

def State.putSet (s : State) (c : Nat) (act : Bool) (d : Desc) : State :=
  let h := s.chan c
  s.setChan c (if act then { h with active := some d } else { h with shadow := some d })

/-- The next translation request of a channel leaves (R289). -/
def State.atsAsk (s : State) (c : Nat) : State :=
  match (s.chan c).atsWaits with
  | none => s
  | some (_, d) =>
    match d.atsNext with
    | some (a, _, _) => (s.send (.atsRequest c (fld d.ctrl 63 44) a)).count WB_CNT_ATS 1
    | none => s

/-- Invalidations that no descriptor holds back any more are completed (R291). -/
def State.releaseInvals (s : State) : State :=
  let held := s.wb.ch.toList.flatMap (fun h => (h.active.map (·.waits)).getD [] ++ (h.shadow.map (·.waits)).getD [])
  let free := s.wb.invals.filter (fun i => !held.contains i)
  let s1 : State := { s with wb := { s.wb with invals := s.wb.invals.filter (fun i => held.contains i) } }
  free.foldl (fun t i => t.send (.atsInvalidated i.1 i.2.1 i.2.2)) s1

/-! ## Queueing (R260, R286, R289) -/

/-- Translated pieces held by the engine. -/
def State.pieces (s : State) : Nat :=
  s.wb.ch.toList.foldl (fun n h =>
    n + (h.active.map (fun d => d.srcP.length + d.dstP.length)).getD 0 + (h.shadow.map (fun d => d.srcP.length + d.dstP.length)).getD 0) 0

/-- The pending harness changes CLIENT, UPL or PRIO of a channel (R417); that of a harness soft reset holds the Reset values (R439). -/
def State.cfgChanges (s : State) (c : Nat) : Bool :=
  match s.coach.commit with
  | some ⟨_, true, some _, _⟩ => decide ((resetOf (WB_CH_CFG c) ^^^ s.rd (WB_CH_CFG c)) &&& 0x37 ≠ 0)
  | some ⟨_, false, some h, _⟩ =>
    h.any (fun p => decide (p.1 = WB_CH_CFG c) && decide ((p.2 ^^^ s.rd (WB_CH_CFG c)) &&& 0x37 ≠ 0))
  | _ => false

/-- The first of the refusals 1 to 3 that holds (R286), if any. -/
def State.queueRefusal (s : State) (c : Nat) (d : Desc) : Option Nat :=
  let h := s.chan c
  if (h.active.isSome && h.shadow.isSome) || s.cfgChanges c then some 1
  else if 16384 < d.srcP.length ∨ 16384 < d.dstP.length then some 3
  else if 131072 < s.pieces + d.srcP.length + d.dstP.length then some 2
  else none

/-- A descriptor enters a channel: into the active set, or the shadow set (R260). -/
def State.enqueue (s : State) (c : Nat) (d : Desc) : State :=
  let h := s.chan c
  let ask := h.atsWaits.isNone
  let s1 := if h.active.isNone then (s.setChan c { h with active := some d }).begin c else s.setChan c { h with shadow := some d }
  if ask && (d.atsSrc.isSome || d.atsDst.isSome) then s1.atsAsk c else s1

def Side.hvRanges (x : Side) : List (Nat × Nat) := if x.hv then x.pieces.map (fun p => (p.1, p.2.1)) else []

/-- Requesters that may queue on and abort a channel (R259, R292): the core only where its privilege reaches it. -/
def State.mayQueue (s : State) (who : Writer) (c : Nat) : Bool :=
  let cl := s.f (WB_CH_CFG c) 1 0
  match who with
  | .core => decide (cl = 0) && (decide (s.priv ≠ 0) || (decide (c < 48) && s.b (WB_CH_CFG c) 2))
  | .host => decide (cl = 1)
  | .coach => decide (cl = 2)
  | .block => false

/-- A side before its list is read. -/
def bareSide (list hv : Bool) (a lenW : Word) : Side := if list then ⟨[], true, hv, false⟩ else ⟨[(a, lenW)], false, hv, true⟩

/-- The pairs of a list as its bytes give them. -/
def listSide (hv : Bool) (bs : List Byte) : Side := ⟨(chunksOf 2 (wordsOf bs)).map (fun w => (w.getD 0 0, w.getD 1 0)), true, hv, true⟩

/-- A side of a physical descriptor; a list that cannot be read gives the failing read. -/
def State.physSide (s : State) (c : Nat) (list hv : Bool) (a lenW : Word) (n : Nat) (o : Outside) : (Side × Option Rd) × State :=
  let x := bareSide list hv a lenW
  if !list ∨ fld a 3 0 ≠ 0 then ((x, none), s)
  else
    match s.engineRead (s.mayRead c) a.toNat (16 * n) o with
    | (.ok bs, s1) => ((listSide hv bs, none), s1)
    | (r, s1) => ((x, some r), s1)

/-- The status of a read of a descriptor or list that failed. -/
def Rd.code : Rd → Nat × Nat × Nat
  | .ok _ => (0, 0, 0)
  | .owner => (2, 6, 0)
  | .bus a => (3, 0, a)
  | .ecc a => (4, 0, a)

/-- A list that the ownership in force withholds is a violation like any other of its side (R269, R277). -/
def ownerFailed (r : Option Rd) : Bool := match r with | some .owner => true | _ => false

/-- The status of a descriptor of the host or the Coachman that is in error (R277, R289, R293): what needs no list comes first, then
the failure to read one, then what the lists hold. `x`, `y`: the sides as far as they could be read. -/
def physStatus (s : State) (c : Nat) (ws : List Word) (x y : Side) (rx ry : Option Rd) : Option (Nat × Nat × Nat × Nat) :=
  let d := descOf ws
  let det := fun (e : Nat × Nat) => (2, e.1, e.2, 0)
  let failed := fun (r : Option Rd) => match r with
    | some .owner => none
    | some r => some (r.code.1, r.code.2.1, 0, r.code.2.2)
    | none => none
  let own := if ownerFailed rx then some (2, 6, 0, 0) else none
  let last := match physError s c ws .phys x y with
    | some e => if e.1 = 6 then own.orElse (fun _ => some (det e)) else some (det e)
    | none => own.orElse (fun _ => if ownerFailed ry then some (2, 6, 0, 0) else none)
  ((((descError s ws .phys false (bareSide d.slist d.shv d.src (ws.getD 3 0)) (bareSide d.dlist d.dhv d.dst (ws.getD 3 0))).map det).orElse
    (fun _ => failed rx)).orElse (fun _ => failed ry)).orElse (fun _ => ((descError s ws .phys false x y).map det).orElse (fun _ => last))

/-- A descriptor at a physical address is queued by the host, or by the Coachman's firmware (R259, R289). -/
def State.hostQueue (s : State) (c : Nat) (who : Writer) (a : Nat) (o : Outside) : State :=
  if c < 16 ∨ 56 ≤ c ∨ who = .core ∨ !s.mayQueue who c then s
  else
    match s.engineRead (s.mayRead c) a 64 o with
    | (.ok bs, s1) =>
      let ws := wordsOf bs
      let d := descOf ws
      let res := fld (ws.getD 3 0) 39 0
      let ((x, rx), t1) := s1.physSide c d.slist d.shv d.src (ws.getD 3 0) (fld d.lists 13 0 + 1) o
      let ((y, ry), s2) := t1.physSide c d.dlist d.dhv d.dst (ws.getD 3 0) (fld d.lists 29 16 + 1) o
      match physStatus s2 c ws x y rx ry with
      | some (code, det, pair, ea) => (s2.putError c code det pair res ea).qres c 5
      | none =>
        let d1 := { d with srcP := x.pieces, dstP := y.pieces, hv := x.hvRanges ++ y.hvRanges,
                           atsSrc := if d.shv then some 0 else none, atsDst := if d.dhv then some 0 else none }
        match s2.queueRefusal c d1 with
        | some r => s2.qres c r
        | none => (s2.enqueue c d1).qres c (if d.shv ∨ d.dhv then 4 else 0)
    | (r, s1) => (s1.putError c r.code.1 r.code.2.1 0 0 r.code.2.2).qres c 5

/-! ## WBQUEUE (R284 to R287) -/

def wbCh (w : Insn) : Nat := fld w 23 18

/-- WB_QFAULT of a fault at a stage (R285, R295). -/
def State.qfault (s : State) (c side pair : Nat) : State :=
  s.wrSet WB_QFAULT (BitVec.ofNat 64 (2 ^ 63 + c * 2 ^ 48 + side * 2 ^ 16 + pair))

/-- ILLEGAL_OP of opcode 0x34 (R284). -/
def wbIllegal (w : Insn) (sub : Nat) : Bool :=
  decide (opcode w ≠ 0x34) || decide (fSub w ≠ sub) || decide (wbCh w < 16) || decide (55 < wbCh w) || decide (fld w 17 10 ≠ 0) ||
    (decide (sub = 1) && decide (fGd w ≠ 0)) || (decide (sub ≠ 0) && decide (fGa w ≠ 0))

/-- PRIV of opcode 0x34 (R284). -/
def State.wbPriv (s : State) (w : Insn) : Bool := !s.mayQueue .core (wbCh w)

/-- Translation of a virtual range into pieces, one per span (R285): the pieces from physical address on, or a fault. The fuel bounds
the spans. -/
def rangeGo (k : Access) (pair : Nat) (o : Outside) : Nat → Nat → Nat → List (Nat × Nat × Nat) → State →
    (Except (Cause × Word) (List (Nat × Nat × Nat))) × State
  | 0, _, _, acc, s => (.ok acc, s)
  | f + 1, va, n, acc, s =>
    if n = 0 then (.ok acc, s)
    else
      match s.translateFor (BitVec.ofNat 64 va) k true o with
      | (.bad c fa, s1) => (.error (c, fa), s1)
      | (.ok pa _, s1) =>
        let room := if !s1.b SP_CTRL 0 then n
          else match (s1.spanHits va).head? with
            | some i => let p := spanOf (s1.spanW i); p.va + p.n - va
            | none => n
        let l := min n room
        rangeGo k pair o f (va + l) (n - l) (acc ++ [(pa, l, pair)]) s1

/-- The pairs of a side are translated in order (R285, stage 3); the pair of a fault. -/
def pairsGo (k : Access) (o : Outside) : List (Nat × Nat × Nat) → List (Nat × Nat × Nat) → State →
    (Except (Cause × Word × Nat) (List (Nat × Nat × Nat))) × State
  | [], acc, s => (.ok acc, s)
  | (a, n, i) :: t, acc, s =>
    match rangeGo k i o 16385 a n [] s with
    | (.error (c, fa), s1) => (.error (c, fa, i), s1)
    | (.ok ps, s1) => pairsGo k o t (acc ++ ps) s1

/-- Bytes at a virtual address, span by span, as the engine reads them for the core; the descriptor and the lists. -/
def State.virtRead (s : State) (c : Nat) (va n : Nat) (o : Outside) : (Except (Cause × Word) (List Byte)) × State :=
  match rangeGo .read 0 o 16 va n [] s with
  | (.error e, s1) => (.error e, s1)
  | (.ok ps, s1) =>
    ps.foldl (fun (p : (Except (Cause × Word) (List Byte)) × State) q =>
      match p with
      | (.error e, t) => (.error e, t)
      | (.ok bs, t) =>
        match t.engineRead (t.mayRead c) q.1 q.2.1 o with
        | (.ok l, t1) => (.ok (bs ++ l), t1)
        | (.owner, t1) => (.error (.yardOwner, BitVec.ofNat 64 (va + bs.length)), t1)
        | (.bus a, t1) => (.error (.busError, BitVec.ofNat 64 a), t1)
        | (.ecc a, t1) => (.error (.busError, BitVec.ofNat 64 a), t1)) (.ok [], s1)

/-- A side of a WBQUEUE descriptor as its list gives it; the fault where the list cannot be read. -/
def State.virtSide (s : State) (c : Nat) (list hv : Bool) (a lenW : Word) (n : Nat) (o : Outside) : (Except (Cause × Word) Side) × State :=
  if !list then (.ok (bareSide list hv a lenW), s)
  else
    match s.virtRead c a.toNat (16 * n) o with
    | (.ok bs, s1) => (.ok (listSide hv bs), s1)
    | (.error e, s1) => (.error e, s1)

/-- A side with its pieces (R285, stage 3): the list, then its pairs, translated by spans; host-virtual ones are left for ATS. -/
def State.virtPieces (s : State) (c : Nat) (list hv : Bool) (a lenW : Word) (n : Nat) (k : Access) (o : Outside) :
    (Except (Cause × Word × Nat) (Side × List (Nat × Nat × Nat))) × State :=
  match s.virtSide c list hv a lenW n o with
  | (.error (e, fa), s1) => (.error (e, fa, 0), s1)
  | (.ok x, s1) =>
    if hv then (.ok (x, x.pieces), s1)
    else match pairsGo k o x.pieces [] s1 with
      | (.error e, s2) => (.error e, s2)
      | (.ok ps, s2) => (.ok (x, ps), s2)

/-- The first pair of a destination that DTAG does not allow (R271): misaligned, or, as far as it can be translated, outside every
Yard. -/
def State.tagBad (s : State) (y : Side) (o : Outside) : Option Nat :=
  if y.hv then some 0
  else (y.pieces.find? (fun p => decide (p.1 % 8 ≠ 0) || decide (p.2.1 % 8 ≠ 0) ||
    (match (rangeGo .write p.2.2 o 16385 p.1 p.2.1 [] s).1 with
     | .ok ps => ps.any (fun q => !inAYard q.1 q.2.1)
     | .error _ => false))).map (·.2.2)

/-- The result 5 of stage 2 (R285): what the descriptor, and its lists where they can be read, break of R261 to R263 and R271; with the
state in which it is found. -/
def State.stage2 (s : State) (c : Nat) (ws : List Word) (o : Outside) : Option (Nat × Nat) × State :=
  let d := descOf ws
  let user := decide (s.priv = 0)
  let x0 := bareSide d.slist d.shv d.src (ws.getD 3 0)
  let y0 := bareSide d.dlist d.dhv d.dst (ws.getD 3 0)
  match descError s ws .core user x0 y0 with
  | some e => (some e, s)
  | none =>
    let side := fun (t : State) (list hv : Bool) (a : Word) (n : Nat) (z : Side) => match t.virtSide c list hv a (ws.getD 3 0) n o with
      | (.ok v, u) => (v, u)
      | (.error _, _) => (z, t)
    let (x, t1) := side s d.slist d.shv d.src (fld d.lists 13 0 + 1) x0
    let (y, t2) := side t1 d.dlist d.dhv d.dst (fld d.lists 29 16 + 1) y0
    ((descError t2 ws .core user x y).orElse (fun _ => if d.dtag then (t2.tagBad y o).map (fun i => (5, i)) else none), t2)

/-- The pieces in order, with the bytes of their pair that came before: the first that may not be used. -/
def pieceGo (s : State) (may : Nat → Bool) : List (Nat × Nat × Nat) → Nat → Nat → Option (Nat × Nat)
  | [], _, _ => none
  | (a, n, i) :: t, pair, off =>
    let off' := if i = pair then off else 0
    if s.notOwned may a n then
      match s.place a with
      | .yard y => some (off' + s.ownedUpTo may y n, i)
      | _ => some (off', i)
    else pieceGo s may t i (off' + n)

/-- The lowest byte of a pair's pieces in a group that may not be used, and the pair (R285, stage 4). -/
def State.pieceNotOwned (s : State) (may : Nat → Bool) (x : Side) (ps : List (Nat × Nat × Nat)) : Option (Word × Nat) :=
  if x.hv then none
  else (pieceGo s may ps 0 0).map (fun p => (BitVec.ofNat 64 ((x.pairs.getD p.2 (0, 0)).1.toNat + p.1), p.2))

/-- Stage 3 (R285): the source, the destination, STAT and the DONE word are translated in this order; with a fault its side and pair. -/
def State.stage3 (s : State) (c : Nat) (ws : List Word) (o : Outside) :
    (Except (Cause × Word × Nat × Nat) (Side × Side × Desc)) × State :=
  let d := descOf ws
  match s.virtPieces c d.slist d.shv d.src (ws.getD 3 0) (fld d.lists 13 0 + 1) .read o with
  | (.error (e, fa, i), t) => (.error (e, fa, 1, i), t)
  | (.ok (x, sp), s1) =>
    match s1.virtPieces c d.dlist d.dhv d.dst (ws.getD 3 0) (fld d.lists 29 16 + 1) .write o with
    | (.error (e, fa, i), t) => (.error (e, fa, 2, i), t)
    | (.ok (y, dp), s2) =>
      match (if d.stat = 0 then (.ok [], s2) else rangeGo .write 0 o 1 d.stat.toNat 32 [] s2) with
      | (.error (e, fa), t) => (.error (e, fa, 3, 0), t)
      | (.ok st, s3) =>
        match (if d.donek = 2 then rangeGo .write 0 o 1 d.done.toNat 8 [] s3 else (.ok [], s3)) with
        | (.error (e, fa), t) => (.error (e, fa, 3, 0), t)
        | (.ok dn, s4) =>
          let at_ := fun (l : List (Nat × Nat × Nat)) => BitVec.ofNat 64 ((l.head?.map (·.1)).getD 0)
          (.ok (x, y, { d with
            srcP := sp, dstP := dp, hv := x.hvRanges ++ y.hvRanges, stat := at_ st, done := if d.donek = 2 then at_ dn else d.done,
            atsSrc := if d.shv then some 0 else none, atsDst := if d.dhv then some 0 else none }), s4)

/-- Stage 4 (R285): the first piece, STAT or DONE word that ownership forbids, with its side and pair. `d0`: the descriptor as queued. -/
def State.stage4 (s : State) (c : Nat) (d0 : Desc) (x y : Side) (d : Desc) : Option (Word × Nat × Nat) :=
  match s.pieceNotOwned (s.mayRead c) x d.srcP, s.pieceNotOwned (s.mayWrite c) y d.dstP with
  | some (fa, i), _ => some (fa, 1, i)
  | none, some (fa, i) => some (fa, 2, i)
  | none, none =>
    if d.stat ≠ 0 ∧ s.notOwned (s.mayWrite c) d.stat.toNat 32 then some (d0.stat, 3, 0)
    else if s.doneInCoach d then some (d0.done, 3, 0)
    else none

/-- WBQUEUE (R285, R286). -/
def State.wbqueue (s : State) (w : Insn) (o : Outside) : Ran :=
  let c := wbCh w
  let va := s.g (fGa w)
  let answer := fun (t : State) (r : Nat) => Ran.done ((t.qres c r).setG (fGd w) (BitVec.ofNat 64 r))
  if wbIllegal w 0 then .fault .illegalOp 0 s
  else if s.wbPriv w then .fault .priv 0 s
  else if fld va 5 0 ≠ 0 then .fault .align va s
  else
    match (s.drainAll o).virtRead c va.toNat 64 o with
    | (.error (e, fa), s1) => .fault e fa (s1.qfault c 0 0)
    | (.ok bs, s1) =>
      let ws := wordsOf bs
      match s1.stage2 c ws o with
      | (some e, t) => answer (t.putStatus c 2 e.1 e.2 (descOf ws).len 0) 5
      | (none, _) =>
        match s1.stage3 c ws o with
        | (.error (e, fa, side, i), t) => .fault e fa (t.qfault c side i)
        | (.ok (x, y, d), t) =>
          match t.stage4 c (descOf ws) x y d with
          | some (fa, side, i) => .fault .yardOwner fa (t.qfault c side i)
          | none =>
            match t.queueRefusal c d with
            | some r => answer t r
            | none => answer (t.enqueue c d) (if d.shv ∨ d.dhv then 4 else 0)

/-- WBABORT (R284, R292). -/
def State.wbabort (s : State) (w : Insn) : Ran :=
  if wbIllegal w 1 then .fault .illegalOp 0 s
  else if s.wbPriv w then .fault .priv 0 s
  else .done (s.abortChan (wbCh w))

/-- WB_CH_STATUS as it reads: ACTIVE, SHADOW, GATED and ATSWAIT of the sets (R295). A staged descriptor is in the shadow set from
t + 4 (R280). -/
def State.chStatus (s : State) (c : Nat) : Word :=
  let h := s.chan c
  let sh := match h.shadow with | some d => decide (16 ≤ c) || decide (d.firedAt ≤ s.time.toNat) | none => false
  let gated := match h.active with | some d => d.gated | none => false
  setBit (setBit (setBit (setBit (s.rd (WB_CH_STATUS c)) 63 h.active.isSome) 62 sh) 61 gated) 60 h.atsWaits.isSome

/-- WBSTAT (R284). -/
def State.wbstat (s : State) (w : Insn) : Ran :=
  if wbIllegal w 2 then .fault .illegalOp 0 s
  else if s.wbPriv w then .fault .priv 0 s
  else .done (s.setG (fGd w) (s.chStatus (wbCh w)))

/-- A write to WB_CH_CTRL (R292, R280): from a requester allowed to queue on the channel, with ABORT 1, on an unscheduled
channel. -/
def State.abortWrite (s : State) (c : Nat) (who : Writer) (data : Word) : State :=
  if 16 ≤ c ∧ c < 56 ∧ s.mayQueue who c ∧ bit data 0 then s.abortChan c else s

/-- A descriptor fails its translation (R290). -/
def State.atsFail (s : State) (c detail : Nat) : State :=
  match (s.chan c).atsWaits with
  | none => s
  | some (act, d) =>
    let pair := match d.atsNext with | some p => p.2.2 | none => 0
    (s.putSet c act { d with ended := some (5, detail, pair, 0) }).atsAsk c

/-- ATS_COMPLETION (R289, R290). -/
def State.atsComplete (s : State) (c : Nat) (r : AtsRsp) : State :=
  match (s.chan c).atsWaits with
  | none => s
  | some (act, d) =>
    match d.atsNext, r with
    | _, .refused => s.atsFail c 1
    | none, _ => s
    | some (_, left, _), .ok h len rd wr =>
      let src := d.atsSrc.isSome
      if 2 ^ 44 ≤ h.toNat ∨ (src ∧ !rd) ∨ (!src ∧ !wr) then s.atsFail c 2
      else if len = 0 then s
      else
        let l := min len.toNat left
        let pa := s.pins.pkg.toNat * 2 ^ 50 + 0x300000000000 + h.toNat
        let p := (if src then d.atsSrc else d.atsDst).getD 0
        let nx := if d.len ≤ p + l then none else some (p + l)
        let d1 := if src then { d with srcP := retarget pa l d.srcP p, atsSrc := nx }
          else { d with dstP := retarget pa l d.dstP p, atsDst := nx }
        if 16384 < d1.srcP.length ∨ 16384 < d1.dstP.length then
          (s.putSet c act { d1 with ended := some (2, 9, 0, 0) }).atsAsk c
        else
          let s1 := (s.putSet c act d1).atsAsk c
          if act then s1.gateCheck c false else s1

/-- A descriptor uses a host page of a range under a PASID (R291). -/
def Desc.usesPage (d : Desc) (pasid va len : Nat) : Bool :=
  decide (fld d.ctrl 63 44 = pasid) && d.hv.any (fun r => decide (r.1 < va + len) && decide (va < r.1 + r.2))

/-- An invalidation arrives (R291). -/
def State.invalidate (s : State) (i : Nat × Nat × Nat) : State :=
  let mark := fun (d : Desc) => if d.usesPage i.1 i.2.1 i.2.2 then { d with waits := d.waits ++ [i] } else d
  let ch := s.wb.ch.map (fun h => ⟨h.active.map mark, h.shadow.map mark, h.aborting⟩)
  ({ s with wb := { s.wb with ch := ch, invals := s.wb.invals ++ [i] } } : State).releaseInvals

/-! ## Bursts (R264, R270, R274) -/

/-- The burst at a stream position (R264): source, destination, length, pairs. -/
def Desc.burst (d : Desc) (p : Nat) : Option (Nat × Nat × Nat × Nat × Nat) :=
  match pieceAt d.srcP p, pieceAt d.dstP p with
  | some (a, m, i), some (b, n, j) => some (a, b, min (min m n) (min (4096 - a % 4096) (4096 - b % 4096)), i, j)
  | _, _ => none

/-! ## Completion (R275, R276, R292) -/

/-- The done action (R273). A fill in another Yard leaves as a request whose response is awaited beside the transfer; a word in no Yard
is refused. -/
def State.doneAction (s : State) (c : Nat) (d : Desc) : State :=
  match d.donek with
  | 1 => s.ctrInc (fld d.done 11 0) 1 (idChan c)
  | 2 =>
    let a := fld d.done 55 0
    match s.place a with
    | .yard y =>
      if ownCoach ≤ s.owner y then s.setB (WB_CH_STATUS c) 36 true
      else s.viaPort (bankOf y) (fun t => (t.tagged y .yfill (idChan c)).2.2) (fun t => t.joinTail (bankOf y) (.fill c y))
    | .window _ => s.setB (WB_CH_STATUS c) 36 true
    | .unmapped => s.setB (WB_CH_STATUS c) 36 true
    | _ => ({ s with wb := { s.wb with strays := s.wb.strays ++ [c] } } : State).send (.tagOp a .yfill)
  | _ => s

/-- The 32 bytes of a status record (R276). -/
def recordOf (d : Desc) (e : Nat × Nat × Nat × Nat) (residue : Nat) : List Byte :=
  toBytes 8 (e.1 + e.2.1 * 2 ^ 8 + e.2.2.1 * 2 ^ 16) ++ toBytes 8 residue ++ toBytes 8 e.2.2.2 ++ toBytes 8 (d.user * 2 ^ 32)

/-- Step 1: the status record is written; its failure is an error response of the transfer (R293). -/
def State.putRecord (s : State) (c : Nat) (d : Desc) (e : Nat × Nat × Nat × Nat) (residue : Nat) (o : Outside) :
    (Nat × Nat × Nat × Nat) × State :=
  if d.stat = 0 then (e, s)
  else
    let a := fld d.stat 55 0
    let worse := fun (x : Nat × Nat × Nat × Nat) => if e.1 = 0 then x else e
    match s.place a with
    | .yard y => if s.owned (s.mayWrite c) y 32 then (e, s.yWrite y (recordOf d e residue)) else (worse (2, 6, 0, 0), s)
    | .window _ => (worse (3, 0, 0, a), s)
    | .unmapped => (worse (3, 0, 0, a), s)
    | _ =>
      let s1 := s.send (.fabWrite (if c < 16 then .sch else .uns) a (recordOf d e residue))
      match o.wrBad a 32 with
      | some x => (worse (3, 0, 0, x), s1)
      | none => (e, s1)

/-- Requests of a descriptor that are out. -/
def Desc.tags (d : Desc) : Nat := (d.bursts.map (fun b => b.reads.length + b.writes.length)).foldl (· + ·) 0

/-- The transaction tags that a channel holds (R265), and its buffer blocks (R266). -/
def State.chanTags (s : State) (c : Nat) : Nat := ((s.chan c).active.map Desc.tags).getD 0 + s.wb.strays.count c
def State.chanBlocks (s : State) (c : Nat) : Nat := ((s.chan c).active.map (fun d => d.bursts.length)).getD 0

/-- Tags in use by scheduled and by unscheduled channels, and blocks in use. -/
def State.wbTags (s : State) : Nat × Nat × Nat :=
  let sum := fun (f : Nat → Nat) (lo n : Nat) => ((List.range n).map (fun i => f (lo + i))).foldl (· + ·) 0
  (sum s.chanTags 0 16, sum s.chanTags 16 40, sum s.chanBlocks 16 40)

/-- The completion steps of a transfer that has ended with a code (R275), and what follows on its channel (R260, R292). -/
def State.complete (s : State) (c : Nat) (d : Desc) (e : Nat × Nat × Nat × Nat) (residue : Nat) (o : Outside) : State :=
  let (e1, s1) := s.putRecord c d e residue o
  let s2 := s1.putStatus c e1.1 e1.2.1 e1.2.2.1 residue e1.2.2.2
  let s3 := if e1.1 ≠ 0 then s2.setB (WB_CH_STATUS c) 34 true else if bit d.ctrl 14 then s2.setB (WB_CH_STATUS c) 33 true else s2
  let s4 := s3.count WB_CNT_BYTES (d.len - residue)
  let s5 := if e1.1 = 0 then s4.doneAction c d else s4
  let s6 := if e1.1 ≠ 0 then s5.chanReport c 4 else if bit d.ctrl 14 then s5.chanReport c 2 else s5
  let s7 : State := { s6 with wb := { s6.wb with strays := s6.wb.strays ++ List.replicate d.tags c } }
  let h := s7.chan c
  if c < 16 then (s7.setChan c { h with active := none }).releaseInvals
  else
    let again : Bool := match h.shadow with | some x => decide (x.ended.map (·.1) = some 1) && h.aborting | none => false
    let s8 := (s7.setChan c ⟨h.shadow, none, again⟩).leaveAll (idChan c)
    ((if again then s8 else s8.setB (WB_CH_CTRL c) 0 false).begin c).releaseInvals

/-! ## Scheduled channels (R279 to R283) -/

/-- FIRE's effect on its channel (R69, R281): the shadow set becomes active. None: the shadow set is empty. -/
def State.fire (s : State) (c lane slot : Nat) : Option State :=
  match (s.chan c).shadow with
  | none => none
  | some d =>
    let now := s.time.toNat
    if now < d.firedAt then none
    else
      let d1 := { d with firedAt := now, lane := lane, slot := slot }
      let s1 := (s.setChan c { s.chan c with active := some d1, shadow := none }).setF (WB_CH_USER c) 63 32 d.user
      some (if (s1.yardOnly d1).isSome then s1.later (d.len / 64 + 16) (.wbYardOnlyComplete (BitVec.ofNat 4 c)) else s1)

/-- WB_YARD_ONLY_COMPLETE (R281): at t + N + 16 every line has moved or been lost; completion steps 2 and 3. -/
def State.yardComplete (s : State) (c : Nat) : State :=
  match (s.chan c).active with
  | none => s
  | some d0 =>
    if (s.yardOnly d0).isNone then s
    else
      let s0 := s.advanceTo (s.cycOf (d0.firedAt + d0.len / 64 + 16))
      match (s0.chan c).active with
      | none => s0
      | some d =>
        let at_ := fun (x : Option Nat) => x.getD (d.len / 64)
        let low := min (at_ d.lost) (at_ d.stop)
        let e := if d.lost.isNone ∧ d.stop.isNone then (0, 0, 0, 0) else if at_ d.lost < at_ d.stop then (7, 0, 0, 0) else (2, 6, 0, 0)
        s0.complete c d e (if e.1 = 0 then 0 else d.len - 64 * low) ⟨[], []⟩

end Sys2Proof.Machine
end

