-- ==== Sys2Proof/Machine/Reset.lean ====
section
/-! DEFINITION. The resets: power-on, block, core-only, and the start of the core.
Sections: R435 to R440, R402, R457. -/

namespace Sys2Proof.Machine

/-- POWER_ON_RESET (R436, R440): everything at its reset value; straps and clamp straps as sampled and tied. What was sent stays
sent. -/
def State.powerOn (s : State) (pkg : BitVec 6) (blk clamp : BitVec 4) : State :=
  { State.reset with pins := ⟨pkg, blk, clamp, s.pins.lock⟩, out := s.out, fresh := s.fresh, pending := s.pending }

/-- Registers that a block reset keeps (R440): the spare maps, the HL registers, PW_BOOTPC, PW_CORE; log 12 for PW_ENERGY,
PW_EVENT, PW_CNT_BASE and the DB registers. -/
def keptInBlock (o : Nat) : Bool :=
  (decide (MX_CARMAP 0 ≤ o) && decide (o < MX_CARMAP 9)) || decide (o = YD_GMAP) || decide (o = RL_LANEMAP) ||
    decide (o / 0x10000 = 0xB) || decide (o = PW_BOOTPC) || decide (o = PW_CORE) || decide (o = PW_ENERGY) ||
    decide (o = PW_EVENT) || decide (o = PW_CNT_BASE) || decide (o = DB_CTRL) || (decide (DB_BREAK 0 ≤ o) && decide (o < DB_BREAK 4))

/-- A host channel's transfer is aborted by a block reset (R437, R292): its status record is written where it lies in the block's
own Yard; the clamps keep any other from leaving (log 13). -/
def State.resetRecord (s : State) (c : Nat) (d : Desc) : State :=
  match s.place (fld d.stat 55 0) with
  | .yard y =>
    if d.stat ≠ 0 ∧ s.owned (s.mayWrite c) y 32 then s.yWrite y (recordOf d (1, 0, 0, 0) (d.len - d.confirmed)) else s
  | _ => s

/-- A block reset (R437, R440). -/
def State.blockReset (s : State) : State :=
  if s.phase = .powerOn then s
  else
    let s1 := ((List.range 40).map (· + 16)).foldl (fun t c =>
      if t.f (WB_CH_CFG c) 1 0 = 1 then
        let h := t.chan c
        (h.active.toList ++ h.shadow.toList).foldl (fun u d => u.resetRecord c d) t
      else t) s
    let regs := s1.regs.filter (fun p => keptInBlock p.1)
    let s2 : State := { State.reset with
      phase := .block, time := s1.time, leg := s1.leg, pins := s1.pins, regs := regs,
      yard := { Yard.reset with mem := s1.yard.mem, bad := s1.yard.bad, weak := s1.yard.weak },
      ostler := { s1.ostler with struck := [], moved := [] }, out := s1.out, fresh := s1.fresh, pending := s1.pending }
    s2.setB PW_CORE 0 false

/-- PW_RESET_BLOCK (R435): a write of 1 to BLOCK with KEY 0xA5 in the same write. -/
def State.pwReset (s : State) (data : Word) : State :=
  if fld data 15 8 = 0xA5 ∧ bit data 0 then s.up State.blockReset else s

/-- The core starts at M at PW_BOOTPC with translation off (R438). -/
def State.coreStart (s : State) : State :=
  let s1 := s.fulfil PW_CORE 0
  { s1 with core := { s1.core with run := .run, pc := BitVec.ofNat 64 (s1.f PW_BOOTPC 55 2 * 4) } }

/-- A write to PW_CORE (R438, R452). -/
def State.pwCore (s : State) (data : Word) : State :=
  let s1 := s.setB PW_CORE 1 (bit data 1)
  if !bit data 0 then s1 else if s1.core.run = .held then s1.coreStart else s1.request PW_CORE 0

/-- The SC and SP registers take their Reset values, except SC_RSTINFO (R438). -/
def State.resetSystem (s : State) : State :=
  { s with regs := s.regs.filter (fun p => !(decide (p.1 / 0x10000 = 7) || decide (p.1 / 0x10000 = 8)) || decide (p.1 = SC_RSTINFO)) }

/-- The dirty lines of the L2 are written back, errors discarded (R438). -/
def State.writeBackAll (s : State) (o : Outside) : State :=
  s.core.l2.foldl (fun t x => if x.dirty then (t.writeOut x.line (lineBytes x.data) o).2 else t) s

/-- A core-only reset completes (R438): frame saves, the store buffer and dirty lines go out, the caches are invalidated, the
registers are reset, and the core starts or is held. RESET type 1 is answered. -/
def State.coreResetDone (s : State) (o : Outside) : State :=
  if s.core.run ≠ .resetting then s
  else
    let s1 := (((s.finishSaves o).drainAll o).writeBackAll o).resetSystem
    let c := s1.core
    let s2 : State := { s1 with core := { Core.reset with g := c.g, pc := c.pc, entryS := c.entryS, entryM := c.entryM } }
    let s3 := (s2.setB PW_CORE 0 false).wr DB_STATUS 0
    let s4 := match c.resetSeq with
      | some q => s3.answerTo 0x0005 q 0 true 0 0 0
      | none => s3
    if s4.b PW_CORE 1 then s4.coreStart else s4

end Sys2Proof.Machine
end

