-- ==== Sys2Proof/Machine/Debug.lean ====
section
/-! DEFINITION. Debug: the halt and its registers, the read-out of the Yard's objects, and who may write a register.
Sections: R46, R47, R252, R253, R257, R454, R455. -/

namespace Sys2Proof.Machine

/-- Whether a requester may write the sub-window of an offset (R46, R47). -/
def State.mayPoke (s : State) (who : Writer) (o : Nat) : Bool :=
  match who, o / 0x10000 with
  | .block, _ => false
  | .coach, _ => false
  | _, 7 => false
  | _, 8 => false
  | .host, k => decide (k ≤ 12)
  | .core, 0 => decide (s.priv = 2)
  | .core, 4 => decide (s.priv = 2)
  | .core, 6 => decide (s.priv = 2)
  | .core, k => decide (k ≤ 5) && decide (1 ≤ s.priv)

/-! ## The debug halt (R455) -/

/-- The core runs instructions or waits in one. -/
def State.coreLive (s : State) : Bool :=
  decide (s.core.run = .run) || decide (s.core.run = .wait) || decide (s.core.run = .waiti)

/-- A write to DB_CTRL (R454): EN, RESUME, HALTREQ. A RESUME while the core is not halted stays set (log 48). -/
def State.dbCtrl (s : State) (data : Word) : State :=
  let s1 := s.setB DB_CTRL 0 (bit data 0)
  let s2 := if bit data 2 then (s1.request DB_CTRL 2).resume else s1
  let s3 := if bit data 1 then s2.request DB_CTRL 1 else s2
  if s3.haltAsked && s3.coreLive then s3.debugHalt 1 0 else s3

/-- DB_PC and DB_GREG are written while the core is halted (R454); g0 stays zero. -/
def State.dbPc (s : State) (data : Word) : State := if s.core.run = .halted then s.wr DB_PC data else s
def State.dbGreg (s : State) (n : Nat) (data : Word) : State := if s.core.run = .halted then s.setG n data else s

/-! ## Read-out of the Yard's objects (R252, R253) -/

/-- The object a selection names. -/
def dbgObj (w : Word) : Option Obj :=
  let t := fld w 28 0
  match fld w 30 29 with
  | 0 => if t < yardBytes then some (.word (t - t % 8)) else none
  | 1 => if t < 4096 then some (.ctr t) else none
  | 2 => if t < 256 then some (.mbox t) else none
  | _ => none

/-- YD_DBG_SEL starts a read-out; a write while DONE is 0 is ignored (R252). -/
def State.dbgSel (s : State) (who : Writer) (data : Word) : State :=
  if s.mayPoke who YD_DBG_SEL && s.b YD_DBG_SEL 63 then s.wr YD_DBG_SEL (data &&& maskOf 30 0) else s

/-- Four words into YD_DBG_ENTRY. -/
def State.putEntry (s : State) (ws : List Word) : State := (List.range 4).foldl (fun t i => t.wr (YD_DBG_ENTRY i) (ws.getD i 0)) s

/-- The read-out ends: value, tag or full bit, and entry. The tag shown with an uncorrectable word is a free value. -/
def State.dbgDone (s : State) : State :=
  if s.b YD_DBG_SEL 63 then s
  else
    let fin := fun (t : State) (v st : Word) (e : List Word) =>
      (((t.wr YD_DBG_VALUE v).wr YD_DBG_STATE st).putEntry e).setB YD_DBG_SEL 63 true
    match dbgObj (s.rd YD_DBG_SEL) with
    | none => fin s 0 4 [0, 0, 0, 0]
    | some o =>
      let e := entryWords (s.yard.room.find? (fun e => decide (e.obj = o)))
      match o with
      | .word w =>
        if inSet w s.yard.bad then
          let (t, s1) := s.flip
          fin (s1.noteUE w) 0 (if t then 3 else 2) e
        else fin (s.seeWord w) (s.yWord w) (if s.tag w then 1 else 0) e
      | .ctr i => fin s (BitVec.ofNat 64 (s.ctr i)) 0 e
      | .mbox n => fin s (s.mboxVal n) (if s.mboxFull n then 1 else 0) e

/-- HWRESET (R257): writing 1 sets HIGHWATER to the entries now in use. -/
def State.hwReset (s : State) (who : Writer) (data : Word) : State :=
  if s.mayPoke who YD_WR_STATUS && bit data 63 then s.setF YD_WR_STATUS 28 16 s.yard.room.length else s

end Sys2Proof.Machine
end

