-- ==== Sys2Proof/Machine/Rings.lean ====
section
/-! DEFINITION. The booking and receipt rings, the posting of receipts, and notify writes.
Sections: R393 to R397, R399, R423. -/

namespace Sys2Proof.Machine

/-- A range lies wholly in the host window or wholly in the own package's DRAM (R393, R405, R412). -/
def State.hostOrDram (s : State) (a n : Nat) : Bool :=
  match s.place a, s.place (a + (n - 1)) with
  | .host, .host => true
  | .dram, .dram => true
  | _, _ => false

/-- A ring is placed as R393 requires. -/
def State.ringOk (s : State) (base bytes : Nat) : Bool := decide (base % bytes = 0) && s.hostOrDram base bytes

/-- A write to CM_CTRL (R393): EN from 0 to 1 checks both rings and, if they pass, sets the indices to 0 and takes them into
use. -/
def State.cmCtrl (s : State) (data : Word) : State :=
  let was := s.b CM_CTRL 0
  let bl := fld data 11 8
  let rl := fld data 15 12
  let s1 := (s.setF CM_CTRL 15 12 rl).setF CM_CTRL 11 8 bl
  if !bit data 0 then s1.setB CM_CTRL 0 false
  else if was then s1
  else
    let bb := s1.f CM_BOOK_BASE 55 10 * 1024
    let rb := s1.f CM_RCPT_BASE 55 10 * 1024
    let ok := decide (4 ≤ bl) && decide (bl ≤ 12) && decide (5 ≤ rl) && decide (rl ≤ 13) &&
      s1.ringOk bb (2 ^ bl * 64) && s1.ringOk rb (2 ^ rl * 32)
    if !ok then s1.setB CM_STATUS 0 true
    else
      let s2 := ((((s1.setB CM_CTRL 0 true).wr CM_BOOK_TAIL 0).wr CM_BOOK_HEAD 0).wr CM_RCPT_TAIL 0).wr CM_RCPT_HEAD 0
      { s2 with coach := { s2.coach with rings := (bb, bl, rb, rl), noTake := false, noPost := false, badRead := none } }

/-- The distance of two free-running indices. -/
def State.gap (s : State) (tail head : Nat) : Nat := (s.f tail 31 0 + 2 ^ 32 - s.f head 31 0) % 2 ^ 32

/-- RING_ERR: the Coachman takes no packet until EN has been cleared and set again (R394). -/
def State.ringErr (s : State) : State :=
  let s1 := s.setB CM_STATUS 0 true
  { s1 with coach := { s1.coach with noTake := true } }

/-- The read of the next packet fails (R394): an error response, or the end of its time. -/
def State.packetFails (s : State) : State :=
  if s.b CM_CTRL 0 ∧ !s.coach.noTake ∧ s.gap CM_BOOK_TAIL CM_BOOK_HEAD ≠ 0 then s.ringErr else s

/-- A packet whose read fails is the next one. -/
def State.packetRead (s : State) : State := if s.coach.badRead = some (s.f CM_BOOK_HEAD 31 0) then s.packetFails else s

/-- The doorbell (R394): CM_BOOK_TAIL is written, and an index overrun is an error. -/
def State.doorbell (s : State) (data : Word) : State :=
  let s1 := s.setF CM_BOOK_TAIL 31 0 (fld data 31 0)
  if s1.b CM_CTRL 0 ∧ 2 ^ s1.coach.rings.2.1 < s1.gap CM_BOOK_TAIL CM_BOOK_HEAD then s1.ringErr else s1

/-- The 32 bytes of a receipt (R399). -/
def receiptBytes (r : Receipt) (phase : Bool) : List Byte :=
  toBytes 2 r.op.toNat ++ toBytes 2 r.seq.toNat ++ [r.status] ++
    [BitVec.ofNat 8 ((if phase then 1 else 0) + (if r.final then 2 else 0) + (if r.unsol then 4 else 0)), 0, 0] ++
    toBytes 8 r.detail.toNat ++ toBytes 8 r.d16.toNat ++ toBytes 8 r.d24.toNat

/-- When the unsolicited queue has room again, the number discarded is reported (R397). -/
def State.reportLost (s : State) : State :=
  if s.coach.lost = 0 ∨ 32 ≤ (s.coach.receipts.filter (·.unsol)).length then s
  else
    let n := s.coach.lost
    let s1 : State := { s with coach := { s.coach with lost := 0 } }
    s1.unsolicited 0x8005 (BitVec.ofNat 64 n) 0 0

/-- RCPT_ERR (R395). -/
def State.rcptErr (s : State) : State :=
  let s1 := s.setB CM_STATUS 1 true
  { s1 with coach := { s1.coach with noTake := true, noPost := true } }

/-- The Coachman may write outside: rings in use, no failed write, UNS credits not withheld (R297, R395). -/
def State.mayPost (s : State) : Bool := s.b CM_CTRL 0 && !s.coach.noPost && !s.b RL_DRAG 63

/-- The oldest receipt is posted (R395). -/
def State.postReceipt (s : State) (ok : Bool) : State :=
  match s.coach.receipts with
  | [] => s
  | r :: rest =>
    let (_, _, rb, rl) := s.coach.rings
    let n := 2 ^ rl
    let i := s.f CM_RCPT_TAIL 31 0
    if !s.mayPost ∨ n ≤ s.gap CM_RCPT_TAIL CM_RCPT_HEAD then s
    else
      let s1 := s.send (.fabWrite .uns (rb + 32 * (i % n)) (receiptBytes r (decide ((i / n + 1) % 2 = 1))))
      if !ok then s1.rcptErr
      else
        let s2 := s1.setF CM_RCPT_TAIL 31 0 (i + 1)
        ({ s2 with coach := { s2.coach with receipts := rest, notify := true } } : State).reportLost

/-- The notify write (R396). -/
def State.notifyWrite (s : State) (ok : Bool) : State :=
  let a := s.f CM_NOTIFY_ADDR 55 2 * 4
  if a = 0 ∨ !s.coach.notify ∨ !s.mayPost then s
  else
    let s1 := s.send (.fabWrite .uns a (toBytes 4 (s.f CM_NOTIFY_CFG 63 32)))
    let s2 : State := { s1 with coach := { s1.coach with notify := false } }
    if ok then s2 else s2.rcptErr

end Sys2Proof.Machine
end

