-- ==== Sys2Proof/Machine/Mmio.lean ====
section
/-! DEFINITION. The MMIO window: what each register reads as, what a write of a register does, and accesses by the host, the core
and other blocks. Sections: R8 to R14, R44 to R48, and the register maps of every chapter. -/

namespace Sys2Proof.Machine

/-! ## Reads -/

/-- Bits as a number: bit i of the result is p i. -/
def bitsOf (n : Nat) (p : Nat → Bool) : Nat := (List.range n).foldl (fun v i => if p i then v + 2 ^ i else v) 0

/-- The matrix instruction that is in its cell cycles (R114). -/
def State.inCells (s : State) : Option Job :=
  s.tensor.jobs.find? (fun j => decide (j.st = 0) && decide (opcode j.w ≠ 0x2A) && decide (j.t + 4 ≤ s.time.toNat) &&
    decide (s.time.toNat + 14 ≤ j.due))

/-- Whether the carriage of a logical row is gated (R101): in the cell cycles of an instruction, where its contributions are zero for
want of a row of tA or of a bank selected; none: outside them R101 does not say. -/
def State.carGated (s : State) (row : Nat) : Option Bool :=
  s.inCells.map (fun j =>
    if opcode j.w = 0x28 then decide (j.h ≤ row)
    else decide (row < fld j.aux 5 0) || decide (fld j.aux 5 0 + fld j.aux 13 8 < row))

/-- Bytes of the extent of a vector instruction (R203, R205). -/
def extentBytes (w : Insn) (vl : Nat) : Nat :=
  if opcode w = 0x23 then vSize (vmW w) * min vl (if vmIndexed w then min 512 (vCap (vmW w)) else vCap (vmW w))
  else (vxExt w vl).1 * (vxExt w vl).2

/-- Whether a vector lane group is gated (R203): while an instruction occupies the station, where it holds no byte of the extent; none:
between instructions R203 does not say. -/
def State.vlaneGated (s : State) (g : Nat) : Option Bool :=
  if !s.vxBusy then none
  else
    let who := match (s.tensor.jobs.filter (fun j => decide (j.st = 2))).getLast?, s.tensor.vx.getLast? with
      | some j, _ => some (j.w, j.vl)
      | none, some o => some (o.w, s.vl)
      | none, none => none
    who.map (fun p => decide (extentBytes p.1 p.2 ≤ 128 * g))

/-- Whether a clock domain is gated (R425, R248: a request that waits in a tailboard queue has failed no check); none: where the manual
does not fix the gate. -/
def State.gated (s : State) (d : Nat) : Option Bool :=
  if d < 68 then
    (if s.unitActive (BitVec.ofNat 16 (0x100 + d)) && !s.unitBit HL_FENCE d then
      (match findBelow 64 (fun l => decide (s.carriage l = d)) with | some l => s.carGated l | none => none)
    else some true)
  else if d < 324 then some (!s.unitActive (BitVec.ofNat 16 (0x200 + (d - 68))) || s.unitBit HL_FENCE d)
  else if d < 328 then some (!s.unitActive (BitVec.ofNat 16 (0x300 + (d - 324))) || s.unitBit HL_FENCE d)
  else if d < 336 then s.vlaneGated (d - 328)
  else if 340 ≤ d ∧ d < 343 then
    some (decide (s.core.run = .held) || (decide (s.core.run = .waiti) && decide (s.priv ≠ 0)) ||
      (decide (s.core.run = .wait) &&
        (match s.core.wait with | some ⟨_, .local _, berth, polling⟩ => berth && !polling | _ => false) &&
        !inSet idCore s.yard.ungating))
  else if 349 ≤ d ∧ d < 358 then
    some (s.unitBit HL_FENCE d ||
      (match findBelow 8 (fun l => decide (s.port l = d - 349)) with
       | some l => !s.b (RL_LANE_CFG l) 63
       | none => true))
  else some false

/-- PW_GATE[q]. -/
def State.gateWord (s : State) (q : Nat) : Word × State :=
  let (w, s1) := s.free
  (BitVec.ofNat 64 (bitsOf 64 (fun i => decide (64 * q + i < 370) && (match s.gated (64 * q + i) with | some b => b | none => bit w i))),
    s1)

/-- CTL credits held (R297): translation requests in flight, at most one per channel (R289). What the core asks of the fabric is
answered within the command that asks it. -/
def State.ctlHeld (s : State) : Nat := (s.wb.ch.toList.filter (fun h => h.atsWaits.isSome)).length

/-- The background command bits of CM_STATE [7:3] (R423). -/
def State.background (s : State) : Nat :=
  let k := s.coach
  (if k.admitting.isSome then 1 else 0) + (if k.commit.isSome then 2 else 0) + (if k.dump.isSome then 4 else 0) +
    (if k.test.isSome then 8 else 0) + (if k.stop.isSome then 16 else 0)

/-- SC_IPEND as it reads (R355, R367). -/
def State.ipend (s : State) : Word :=
  [0x19, 0x21, 0x22, 0x23, 0x24, 0x25, 0x26, 0x27, 0x2A, 0x2B, 0x2C, 0x2E].foldl
    (fun w c => setBit w c (s.irqPending c)) (s.rd SC_IPEND)

/-- SC_ROUTE as it reads (R367). -/
def State.route (s : State) : Word := setBit (setBit (s.rd SC_ROUTE) 40 true) 41 true

/-- The register at an 8-byte aligned window offset as it reads (R9, R11). -/
def State.readReg (s : State) (o : Nat) : Word × State :=
  let n64 := fun (n : Nat) => ((BitVec.ofNat 64 n : Word), s)
  let idx := fun (base : Nat) => (o - base) / 8
  if o = HN_LEG then n64 s.leg.toNat
  else if o = HN_CYCLE then n64 (s.cycle % 2 ^ 27)
  else if o = HN_HORN_STATUS then (setBit (s.rd o) 0 (s.b HN_CTRL 0), s)
  else if o = MX_ACCINUSE then n64 (bitsOf 16 s.accUsed)
  else if o = MX_ACCTYPE then n64 (bitsOf 16 s.accInt)
  else if o = YD_TIME then (s.time, s)
  else if o = YD_WR_STATUS then (setFld (s.rd o) 12 0 s.yard.room.length, s)
  else if YD_MBOX_FULL 0 ≤ o ∧ o < YD_MBOX_FULL 4 then n64 (bitsOf 64 (fun i => s.mboxFull (64 * idx (YD_MBOX_FULL 0) + i)))
  else if YD_MBOX 0 ≤ o ∧ o < YD_MBOX 256 then (s.mboxVal (idx (YD_MBOX 0)), s)
  else if o = WB_TAGS then let t := s.wbTags; n64 (t.1 + t.2.1 + t.2.2 * 2 ^ 32)
  else if o = WB_IRQ_PEND then n64 (bitsOf 56 s.chanEvent)
  else if WB_CH_CFG 0 ≤ o ∧ o < WB_CH_CFG 56 ∧ (o - WB_CH_CFG 0) % 0x40 = 8 then (s.chStatus ((o - WB_CH_CFG 0) / 0x40), s)
  else if o = RL_FAB_INFLIGHT then
    let t := s.wbTags
    n64 (t.2.1 + t.1 * 2 ^ 16 + s.ctlHeld * 2 ^ 32 + s.mail.held * 2 ^ 48)
  else if RL_LANE_STATUS 0 ≤ o ∧ o < RL_LANE_STATUS 8 then (setBit (s.rd o) 63 (bit s.pins.lock (s.port (idx (RL_LANE_STATUS 0)))), s)
  else if o = SC_STATUS then (s.scStatus, s)
  else if o = SC_IPEND then (s.ipend, s)
  else if o = SC_ROUTE then (s.route, s)
  else if o = CM_PLACE then n64 (s.pins.pkg.toNat * 256 + s.pins.blk.toNat)
  else if o = CM_STATE then (setFld (s.rd o) 7 3 s.background, s)
  else if o = CM_HARN then
    n64 (s.coach.staged.length + (match s.coach.commit with
      | some ⟨_, _, some _, _⟩ => 2 ^ 63
      | some ⟨_, _, _, some _⟩ => 2 ^ 63
      | _ => 0))
  else if o = PW_STATUS then (setBit (s.rd o) 3 (s.b PW_CLKCTL 0), s)
  else if PW_GATE 0 ≤ o ∧ o < PW_GATE 6 then s.gateWord (idx (PW_GATE 0))
  else if o = HL_ALERT then (setBit (s.rd o) 4 (decide (s.f CM_STATE 2 0 = 1)), s)
  else if DB_GREG 0 ≤ o ∧ o < DB_GREG 32 then if s.core.run = .halted then (s.g (idx (DB_GREG 0)), s) else s.free
  else (s.rd o, s)

/-! ## Writes -/

/-- The bits an access of n bytes at an offset addresses (R8). -/
def laneMask (o n : Nat) : Word := if n = 8 then maskOf 63 0 else if o % 8 = 0 then maskOf 31 0 else maskOf 63 32

/-- A write of a register that has no effect of its own (R8, R11, R13): RW bits take the data, W1C bits are cleared where a 1
is written, both in the addressed half; a SAT count is cleared by a write that addresses its lower half. -/
def State.plainWrite (s : State) (o : Nat) (m data : Word) : State :=
  match regRow o with
  | none => s
  | some r =>
    let v := s.rd o
    let open_ := m &&& ~~~(s.held o)
    let rw := r.rw &&& open_
    let v1 := (v &&& ~~~rw) ||| (data &&& rw)
    let v2 := v1 &&& ~~~(data &&& r.w1c &&& open_)
    s.wr o (if r.sat && bit m 0 then setFld v2 47 0 (min (s.counted o) satMax) else v2)

/-- The data of a write merged with what the other half holds, for registers that act on their value. -/
def State.merged (s : State) (o : Nat) (m data : Word) : Word := (s.rd o &&& ~~~m) ||| (data &&& m)

/-- A write that reaches the register at an 8-byte aligned offset, from a requester that may write it (R46, R47). A host write to
WB_CH_QUEUE is the command WB_CH_QUEUE, which carries what the engine reads (log 4). -/
def State.writeReg (s : State) (who : Writer) (o : Nat) (m data : Word) : State :=
  let d := data &&& m
  let idx := fun (base : Nat) => (o - base) / 8
  if (MX_ACCSCALE 0 ≤ o ∧ o < MX_ACCSCALE 16 ∨ TF_CONV 0 ≤ o ∧ o < TF_CONV 8) ∧ s.tmode then s
  else if o = YD_WR_STATUS then s.hwReset who d
  else if o = YD_DBG_SEL then s.dbgSel who (s.merged o m data)
  else if WB_CH_CFG 0 ≤ o ∧ o < WB_CH_CFG 56 ∧ (o - WB_CH_CFG 0) % 0x40 = 0x30 then s.abortWrite ((o - WB_CH_CFG 0) / 0x40) who d
  else if o = CM_CTRL then s.cmCtrl (s.merged o m data)
  else if o = CM_BOOK_TAIL then (if bit m 0 then s.doorbell data else s)
  else if o = PW_RESET then s.pwReset d
  else if o = PW_CORE then (if bit m 0 then s.pwCore data else s)
  else if o = DB_CTRL then (if bit m 0 then s.dbCtrl data else s)
  else if o = DB_PC then s.dbPc (s.merged o m data)
  else if DB_GREG 0 ≤ o ∧ o < DB_GREG 32 then
    let n := idx (DB_GREG 0)
    s.dbGreg n ((s.g n &&& ~~~m) ||| d)
  else s.plainWrite o m data

/-- A write access to the window (R8, R47): of 4 or 8 bytes, naturally aligned, or an error; ignored where the requester may not
write. The result: whether it completes without error. -/
def State.windowWrite (s : State) (who : Writer) (o n : Nat) (data : Nat) : Bool × State :=
  if (n ≠ 4 ∧ n ≠ 8) ∨ o % n ≠ 0 then (false, s)
  else if !s.mayPoke who o then (true, s)
  else
    let v : Word := BitVec.ofNat 64 (if o % 8 = 0 then data else data * 2 ^ 32)
    (true, s.writeReg who (o - o % 8) (laneMask o n) v)

/-- A read access to the window (R8). -/
def State.windowRead (s : State) (o n : Nat) : Option (List Byte) × State :=
  if (n ≠ 4 ∧ n ≠ 8) ∨ o % n ≠ 0 then (none, s)
  else
    let (w, s1) := s.readReg (o - o % 8)
    (some (((toBytes 8 w.toNat).drop (o % 8)).take n), s1)

/-! ## Boundary signals (R441 to R443) -/

/-- BLK_ALERT_N is driven low while a status bit of HL_ALERT is set whose mask bit is clear; in the resets it is not driven. -/
def State.alertLow (s : State) : Bool :=
  decide (s.phase = .run) && (List.range 5).any (fun k => bit (s.readReg HL_ALERT).1 k && !s.b HL_ALERT (32 + k))

/-- HORN_OUT (R52): high from leg cycle 2 up to 34; driven only while READY is 1. -/
def State.hornOut (s : State) : Option Bool :=
  if s.phase = .run then some (s.legOpen && decide (2 ≤ s.cycle) && decide (s.cycle < 34)) else none

/-- The level at which a clamped output group is held (R442): group k of CLAMP_CFG. -/
def State.clampLevel (s : State) (k : Nat) : Option Bool := if s.phase = .run then none else some (bit s.pins.clamp k)

/-- What the clamps hold the fabric and relay data buses at (R442): all zero, or the last values before isolation, the latest message
that was sent on each. -/
def State.clampedBuses (s : State) : Option (Option OutMsg × Option OutMsg) :=
  let relay := fun (m : OutMsg) => match m with | .relay _ _ => true | .relayLost _ => true | _ => false
  if s.phase = .run then none
  else if bit s.pins.clamp 3 then some ((s.out.filter (fun m => !relay m)).getLast?, (s.out.filter relay).getLast?)
  else some (none, none)

end Sys2Proof.Machine
end

