-- ==== Sys2Proof/Machine/Engine.lean ====
section
/-! DEFINITION. The data path of the Waybill engine: bursts in requests, transaction tags and buffer blocks, the ranking of the
unscheduled channels, one beat, and the responses. Sections: R264 to R271, R274, R282, R283, R293, R296, R297. -/

namespace Sys2Proof.Machine

/-! ## Bursts (R264) -/

/-- Bytes from an address on that one request carries: at most 512, across no 512-byte boundary. -/
def reqLen (a left : Nat) : Nat := min left (512 - a % 512)

/-- Bytes put into others at an offset. -/
def putIn (l : List Byte) (o : Nat) (bs : List Byte) : List Byte := l.take o ++ bs ++ l.drop (o + bs.length)

/-- The burst at the stream position that no burst has reached, before its first read. -/
def Desc.freshBurst (d : Desc) : Option Burst :=
  (d.burst d.next).map (fun (a, b, n, i, j) => ⟨d.next, a, b, n, i, j, 0, [], List.replicate n 0, 0, [], true⟩)

/-- The burst whose next read is to be issued: bursts are read in stream order. -/
def Desc.toRead (d : Desc) : Option Burst :=
  if d.ended.isSome then none
  else match d.bursts.find? (fun b => b.live && decide (b.asked < b.len)) with | some b => some b | none => d.freshBurst

/-- The burst whose next write is to be issued: the first one not written, once all of it has been read (R292, R293, log 21). -/
def Desc.toWrite (d : Desc) : Option Burst :=
  match d.bursts.find? (fun b => b.live && decide (b.put < b.len)) with
  | some b => if b.asked = b.len ∧ b.reads.isEmpty then some b else none
  | none => none

/-- A burst takes its place among those in progress, and leaves them when it is over. -/
def Desc.withBurst (d : Desc) (b : Burst) : Desc :=
  let l := if d.bursts.any (fun x => decide (x.pos = b.pos)) then d.bursts.map (fun x => if x.pos = b.pos then b else x) else d.bursts ++ [b]
  { d with bursts := l.filter (fun x => !x.over), next := max d.next (b.pos + b.len) }

/-- The transfer of a channel ends with a code; a burst stays to be finished where its writes have begun and it did not fail. -/
def State.endWith (s : State) (c : Nat) (d : Desc) (e : Nat × Nat × Nat × Nat) (failed : Option Nat) : State :=
  s.setActive c (some (d.finish e (fun b => b.begun && decide (some b.pos ≠ failed))))

/-! ## Tags, credits and blocks (R265, R266, R297) -/

/-- A request to an address leaves the block on its port (R296). -/
def State.outside (s : State) (a : Nat) : Bool :=
  match s.place a with
  | .yard _ => false
  | .window _ => false
  | .unmapped => false
  | _ => true

/-- A channel has a free transaction tag: of its own, of the priority pool, or of the pool shared with the bulk channels. -/
def State.tagFree (s : State) (c : Nat) : Bool :=
  if c < 16 then decide (s.chanTags c < 1024)
  else
    let sum := fun (lo n : Nat) => ((List.range n).map (fun i => s.chanTags (lo + i))).foldl (· + ·) 0
    let p := sum 48 8
    (decide (48 ≤ c) && decide (p < 8192)) || decide (sum 16 32 + (p - 8192) < 40960)

/-- A channel may hold one more buffer block. -/
def State.blockFree (s : State) (c : Nat) : Bool :=
  let sum := fun (lo n : Nat) => ((List.range n).map (fun i => s.chanBlocks (lo + i))).foldl (· + ·) 0
  decide (c < 16) || (decide (s.chanBlocks c < 64) && decide (sum 16 40 < 1024) && (decide (48 ≤ c) || decide (sum 16 32 < 896)))

/-- A request of a channel may leave on the port: a tag and a credit are there, and unscheduled credits are not withheld (R86, R268,
R297). -/
def State.mayIssue (s : State) (c : Nat) : Bool := s.tagFree c && (decide (c < 16) || !s.b RL_DRAG 63)

/-- The map in force reserves the banks of a range to a scheduled channel in this cycle (R69, R282). -/
def State.reservedTo (s : State) (c y n : Nat) : Bool :=
  match s.seq.image with
  | none => false
  | some im => (List.range (bankOf (y + (n - 1)) + 1 - bankOf y)).all (fun i =>
      im.wbMap.any (fun m => decide (m.1 = c) && decide (m.2.1 = bankOf y + i) && decide (m.2.2.1 ≤ s.cycle) && decide (s.cycle ≤ m.2.2.2)))

/-- The access of a channel to n bytes at an address can be made now; one that ownership forbids can, to end the transfer (R269). -/
def State.mayMove (s : State) (c : Nat) (may : Nat → Bool) (a n : Nat) : Bool :=
  match s.place a with
  | .yard y => decide (16 ≤ c) || !s.owned may y n || s.reservedTo c y n
  | _ => !s.outside a || s.mayIssue c

/-! ## The two engines -/

/-- The active descriptor of a channel moves data in bursts now; while a Waybill domain is under test with no timetable admitted the
unscheduled channels wait (R446, log 54). -/
def State.moving (s : State) (c : Nat) : Option Desc :=
  match (s.chan c).active with
  | some d =>
    if d.gated ∨ d.atsSrc.isSome ∨ d.atsDst.isSome ∨ (c < 16 ∧ (s.yardOnly d).isSome) ∨ (16 ≤ c ∧ s.testing 7) then none else some d
  | none => none

/-- A channel is ready for the read engine, with the burst it reads for. -/
def State.nextRead (s : State) (c : Nat) : Option (Desc × Burst) :=
  match s.moving c with
  | none => none
  | some d =>
    match d.toRead with
    | none => none
    | some b =>
      let a := b.src + b.asked
      if (b.asked ≠ 0 ∨ s.blockFree c) ∧ s.mayMove c (s.mayRead c) a (reqLen a (b.len - b.asked)) then some (d, b) else none

/-- A channel is ready for the write engine, with the burst it writes. -/
def State.nextWrite (s : State) (c : Nat) : Option (Desc × Burst) :=
  match s.moving c with
  | none => none
  | some d =>
    match d.toWrite with
    | none => none
    | some b =>
      let a := b.dst + b.put
      if s.mayMove c (s.mayWrite c) a (reqLen a (b.len - b.put)) then some (d, b) else none

/-- Data read from the block's own Yard: what overlaps the destination is free (R270); the uncorrectable words are recorded. -/
def State.yardData (s : State) (d : Desc) (y n : Nat) : List Byte × State :=
  d.dstP.foldl (fun q r => match s.place r.1 with
    | .yard z => q.2.blur y q.1 z r.2.1
    | _ => q) (s.yRead y n)

/-- One read of a burst (R264, R269, R283, R293, R296): inside the block at once, else a request. Before the first, the ownership of
both sides is checked. -/
def State.readPart (s : State) (c : Nat) (d : Desc) (b : Burst) : State :=
  let a := b.src + b.asked
  let n := reqLen a (b.len - b.asked)
  let failed := fun (t : State) (e : Nat × Nat × Nat × Nat) => t.endWith c d e (some b.pos)
  let got := fun (t : State) (bs : List Byte) => t.setActive c (some (d.withBurst { b with asked := b.asked + n, data := putIn b.data b.asked bs }))
  if s.notOwned (s.mayRead c) a n ∨ (b.asked = 0 ∧ s.notOwned (s.mayRead c) b.src b.len) then failed s (2, 6, b.sp, 0)
  else if b.asked = 0 ∧ s.notOwned (s.mayWrite c) b.dst b.len then failed s (2, 6, b.dp, 0)
  else
    match s.place a with
    | .yard y =>
      let bad := s.badIn y n
      let (bs, t) := s.yardData d y n
      (match bad with
       | w :: _ => if c < 16 then got (t.setB (WB_CH_STATUS c) 35 true) bs else failed t (4, 0, b.sp, a + (w - y))
       | [] => got t bs)
    | .window w =>
      (match s.windowRead w n with
       | (some bs, t) => got t bs
       | (none, t) => failed t (3, 0, b.sp, a))
    | .unmapped => failed s (3, 0, b.sp, a)
    | _ =>
      (s.setActive c (some (d.withBurst { b with asked := b.asked + n, reads := b.reads ++ [(b.pos + b.asked, n)] }))).send
        (.fabRead (if c < 16 then .sch else .uns) a n)

/-- One write of a burst (R269, R271, R274, R296): inside the block at once, else a request. The engine may write no register of the
window (R47). -/
def State.writePart (s : State) (c : Nat) (d : Desc) (b : Burst) : State :=
  let a := b.dst + b.put
  let n := reqLen a (b.len - b.put)
  let bs := (b.data.drop b.put).take n
  let b1 := { b with put := b.put + n }
  let failed := fun (e : Nat × Nat × Nat × Nat) => s.endWith c d e (some b.pos)
  let done := fun (t : State) => (t.setActive c (some ((d.confirm (b.pos + b.put) n).withBurst b1))).halfCheck c
  if s.notOwned (s.mayWrite c) a n then failed (2, 6, b.dp, 0)
  else
    match s.place a with
    | .yard y => let t := s.yWrite y bs; done (if d.dtag then t.fillWords y n (idChan c) else t)
    | .window w => if (n = 4 ∨ n = 8) ∧ w % n = 0 then done s else failed (3, 0, b.dp, a)
    | .unmapped => failed (3, 0, b.dp, a)
    | _ =>
      (s.setActive c (some (d.withBurst { b1 with writes := b.writes ++ [(b.pos + b.put, n)] }))).send
        (if d.dtag then .tagOp a (.write bs true) else .fabWrite (if c < 16 then .sch else .uns) a bs)

def State.readBeat (s : State) (c : Nat) : State := match s.nextRead c with | some (d, b) => s.readPart c d b | none => s
def State.writeBeat (s : State) (c : Nat) : State := match s.nextWrite c with | some (d, b) => s.writePart c d b | none => s

/-! ## The ranking (R267) -/

/-- Rank of an unscheduled channel, higher first. -/
def State.wbRank (s : State) (c : Nat) : Nat :=
  if 48 ≤ c then 1000 - c else s.f (WB_CH_CFG c) 5 4 * 100 + (47 - c)

/-- The highest-ranked channel that is ready. -/
def State.pickChan (s : State) (ready : Nat → Bool) : Option Nat :=
  (((List.range 40).map (· + 16)).filter ready).foldl (fun best c => match best with
    | some k => if s.wbRank k < s.wbRank c then some c else best
    | none => some c) none

/-- The channel served last is still ready, and a higher-ranked one takes the beat. -/
def State.preempts (s : State) (last : Option Nat) (ready : Nat → Bool) (c : Nat) : Bool :=
  match last with
  | some k => decide (k ≠ c) && ready k && decide (s.wbRank k < s.wbRank c)
  | none => false

/-- A beat of the unscheduled read engine. -/
def State.unsRead (s : State) : State :=
  let ready := fun (c : Nat) => (s.nextRead c).isSome
  match s.pickChan ready with
  | none => s
  | some c =>
    let t := if s.preempts s.wb.reader ready c then s.count WB_CNT_PREEMPT 1 else s
    ({ t with wb := { t.wb with reader := some c } } : State).readBeat c

/-- A beat of the unscheduled write engine. -/
def State.unsWrite (s : State) : State :=
  let ready := fun (c : Nat) => (s.nextWrite c).isSome
  match s.pickChan ready with
  | none => s
  | some c =>
    let t := if s.preempts s.wb.writer ready c then s.count WB_CNT_PREEMPT 1 else s
    ({ t with wb := { t.wb with writer := some c } } : State).writeBeat c

/-- What the engine does in one ACLK (log 21): each scheduled channel issues at most one read and one write, the unscheduled engines one
of each among them. -/
def State.engineBeat (s : State) : State :=
  let t := (List.range 16).foldl (fun (u : State) c => (u.readBeat c).writeBeat c) s
  t.unsRead.unsWrite

/-! ## Responses (R274, R293) -/

/-- A request beside a transfer has its response. -/
def State.stray (s : State) (c : Nat) : State := { s with wb := { s.wb with strays := s.wb.strays.erase c } }

/-- The burst that awaits the response at a stream position, and the length of its request. -/
def Desc.awaits (d : Desc) (f : Burst → List (Nat × Nat)) (p : Nat) : Option (Burst × Nat) :=
  d.bursts.findSome? (fun b => ((f b).find? (fun q => decide (q.1 = p))).map (fun q => (b, q.2)))

/-- A response to a request of a channel: data of a burst arrive, a stretch is confirmed, or the transfer ends with BUS_ERROR. What
belongs to a transfer that has ended is collected. -/
def State.wbRsp (s : State) (c : Nat) (r : WbRsp) : State :=
  let out := fun (l : List (Nat × Nat)) (p : BitVec 40) => l.filter (fun q => decide (q.1 ≠ p.toNat))
  let find := fun (f : Burst → List (Nat × Nat)) (p : BitVec 40) => (s.chan c).active.bind (fun d => (d.awaits f p.toNat).map (fun q => (d, q)))
  match r with
  | .readOk p data =>
    (match find Burst.reads p with
     | none => s.stray c
     | some (d, b, n) =>
       if data.length ≠ n then s
       else s.setActive c (some (d.withBurst { b with reads := out b.reads p, data := putIn b.data (p.toNat - b.pos) data })))
  | .readErr p =>
    (match find Burst.reads p with
     | none => s.stray c
     | some (d, b, _) =>
       s.endWith c (d.withBurst { b with reads := out b.reads p }) (3, 0, b.sp, b.src + (p.toNat - b.pos)) (some b.pos))
  | .writeOk p =>
    (match find Burst.writes p with
     | none => s.stray c
     | some (d, b, n) =>
       (s.setActive c (some ((d.confirm p.toNat n).withBurst { b with writes := out b.writes p }))).halfCheck c)
  | .writeErr p =>
    (match find Burst.writes p with
     | none => s.stray c
     | some (d, b, _) =>
       s.endWith c (d.withBurst { b with writes := out b.writes p }) (3, 0, b.dp, b.dst + (p.toNat - b.pos)) (some b.pos))
  | .fillOk => s.stray c
  | .fillErr => if s.wb.strays.contains c then (s.stray c).setB (WB_CH_STATUS c) 36 true else s

/-! ## Completion and the margin (R275, R282) -/

/-- The status record of a transfer may leave now (R86, R268). -/
def State.recordFree (s : State) (c : Nat) (d : Desc) : Bool :=
  decide (d.stat = 0) || !s.outside (fld d.stat 55 0) || s.mayIssue c

/-- WB_TRANSFER_COMPLETE: every response of the transfer has returned, and it is whole or has ended. -/
def State.transferDone (s : State) (c : Nat) (o : Outside) : State :=
  match (s.chan c).active with
  | none => s
  | some d =>
    if !d.bursts.isEmpty ∨ (c < 16 ∧ (s.yardOnly d).isSome) ∨ !s.recordFree c d then s
    else
      match d.ended with
      | some e => s.complete c d e (d.len - d.confirmed) o
      | none => if d.confirmed = d.len then s.complete c d (0, 0, 0, 0) 0 o else s

/-- At P − M a scheduled transfer with a DRAM or fabric endpoint that is incomplete ends (R282), and writes nothing more: the state, and
whether its fabric side is DRAM. -/
def State.endLate (s : State) (c : Nat) : State × Bool :=
  match (s.chan c).active with
  | none => (s, false)
  | some d =>
    if (s.yardOnly d).isSome ∨ d.ended.isSome ∨ d.confirmed = d.len then (s, false)
    else
      let dram := (d.srcP ++ d.dstP).any (fun p => match s.place p.1 with | .dram => true | _ => false)
      let d1 := d.finish (6, 0, 0, 0) (fun _ => false)
      let s1 := (s.setActive c (some d1)).count WB_CNT_LATE 1
      (if d1.bursts.isEmpty then s1.complete c d1 (6, 0, 0, 0) (d1.len - d1.confirmed) ⟨[], []⟩ else s1, dram)

end Sys2Proof.Machine
end

