-- ==== Sys2Proof/Machine/Scalar.lean ====
section
/-! DEFINITION. The scalar instructions: integer, shifts and bit fields, multiply and divide, select, loads and stores, branches,
floating point. R323 names the groups and gives neither encodings nor the arithmetic: operands are structured and the operations
are the usual ones of their names (log 6).
Sections: R319, R323 to R329, R336, R363. -/

namespace Sys2Proof.Machine

/-- The word of a scalar instruction, which a frame records (R362): its major opcode (R323), and bits that the manual does not give
(log 7). -/
def scalarWord (op : BitVec 6) (c : Instr) : Insn := op ++ Config.scalarBits c

/-! ## Integers -/

/-- An integer operation (R323; log 6). -/
def intOp (op : IntOp) (a b : Word) : Word :=
  match op with
  | .add => a + b
  | .sub => a - b
  | .and => a &&& b
  | .or => a ||| b
  | .xor => a ^^^ b
  | .slt => if a.slt b then 1 else 0
  | .sltu => if a.ult b then 1 else 0

/-- A shift by n; a value the manual does not state for 64 and more (log 7). -/
def shiftBy (op : ShiftOp) (a : Word) (n : Nat) : Word :=
  if 64 ≤ n then Config.unstated (match op with | .sll => 0 | .srl => 1 | _ => 2) a (BitVec.ofNat 64 n)
  else
    match op with
    | .sll => a <<< n
    | .srl => a >>> n
    | _ => a.sshiftRight n

/-- A bit field of len bits from pos; the manual states none that is empty or passes bit 63, and no position or length from a
register (log 7). -/
def bitField (op : ShiftOp) (d a : Word) (pos len : Nat) : Word :=
  if len = 0 ∨ 64 < pos + len then Config.unstated 3 a (BitVec.ofNat 64 (pos * 64 + len))
  else
    let v := fld a (pos + len - 1) pos
    match op with
    | .extractU => BitVec.ofNat 64 v
    | .extractS => BitVec.ofInt 64 (sext len v)
    | _ => setFld d (pos + len - 1) pos a.toNat

/-- A shift or bit-field operation: on the old destination d and the source a. -/
def shiftOp (op : ShiftOp) (d a : Word) (amt : ShiftAmt) (rb : Nat → Word) : Word :=
  match op, amt with
  | .sll, .reg r | .srl, .reg r | .sra, .reg r => shiftBy op a (rb r.toNat).toNat
  | .sll, .imm p _ | .srl, .imm p _ | .sra, .imm p _ => shiftBy op a p.toNat
  | _, .imm p l => bitField op d a p.toNat l.toNat
  | _, .reg r => Config.unstated 4 a (rb r.toNat)

/-- A divide (R325): a divisor of zero raises DIV_ZERO. -/
def State.divide (s : State) (rd ra rb : BitVec 5) (f : Word → Word → Word) : Ran :=
  if s.g rb.toNat = 0 then .fault .divZero 0 s else .done (s.setG rd.toNat (f (s.g ra.toNat) (s.g rb.toNat)))

/-! ## Loads and stores (R324, R326 to R329, R336) -/

/-- A frame that is being saved and that an access touches is first saved (R363). -/
def State.awaitSave (s : State) (pa n : Nat) (o : Outside) : State := if s.saving pa n then s.finishSaves o else s

/-- A plain read of the core at a physical address of a class. -/
def State.loadAt (s : State) (va : Word) (pa n : Nat) (cls : Option MemClass) (o : Outside) : Got × State :=
  let s1 := s.awaitSave pa n o
  match cls, s1.place pa with
  | some .mmio, .window w =>
    match s1.windowRead w n with
    | (some bs, t) => (.bytes bs, t)
    | (none, t) => (.bad .busError (BitVec.ofNat 64 pa), t)
  | _, _ => s1.coreRead va pa n cls o

/-- The register value of n loaded bytes. -/
def loaded (signed : Bool) (n : Nat) (bs : List Byte) : Word :=
  let v := ofBytes bs
  if signed then BitVec.ofInt 64 (sext (8 * n) v) else BitVec.ofNat 64 v

/-- A load: ALIGN, span faults, YARD_OWNER, BUS_ERROR (R50, R324, R333). -/
def State.load (s : State) (sz : BitVec 2) (signed : Bool) (rd ra : BitVec 5) (disp : Word) (o : Outside) : Ran :=
  let n := 2 ^ sz.toNat
  let va := s.g ra.toNat + disp
  if va.toNat % n ≠ 0 then .fault .align va s
  else
    match s.translate va .read o with
    | (.bad c fa, s1) => .fault c fa s1
    | (.ok pa cls, s1) =>
      match s1.loadAt va pa n cls o with
      | (.bad c fa, s2) => .fault c fa s2
      | (.bytes bs, s2) => .done (s2.setG rd.toNat (loaded signed n bs))

/-- A plain write of the core at a physical address of a class (R326, R328, R333, R336). `bg`: a device store whose request has left
before an interrupt and whose response comes after: it has retired, and an error is a LATE_BUS_ERROR with entry 17 (R333, R338). -/
def State.storeAt (s : State) (va : Word) (pa : Nat) (bs : List Byte) (cls : Option MemClass) (bg : Bool) (o : Outside) : Ran :=
  let n := bs.length
  let s1 := s.awaitSave pa n o
  let bus := Ran.fault .busError (BitVec.ofNat 64 pa)
  match cls, s1.place pa with
  | none, _ => bus (s1.send (.fabWrite .ctl pa bs))
  | some .mmio, .window w =>
    match s1.windowWrite .core w n (ofBytes bs) with
    | (true, t) => .done t
    | (false, t) => bus t
  | some .mmio, _ =>
    let t := s1.send (.fabWrite .ctl pa bs)
    match o.wrBad pa n with
    | some a => if bg then .done (t.lbe a 17) else .fault .busError (BitVec.ofNat 64 a) t
    | none => .done t
  | some .yard, .yard y => if s1.owned coreOnly y n then .done (s1.sbStore pa .yard bs o) else .fault .yardOwner va s1
  | some c, _ => .done (s1.sbStore pa c bs o)

/-- A store: ALIGN, span faults, YARD_OWNER, then the store buffer or the device. -/
def State.store (s : State) (sz : BitVec 2) (rs ra : BitVec 5) (disp : Word) (bg : Bool) (o : Outside) : Ran :=
  let n := 2 ^ sz.toNat
  let va := s.g ra.toNat + disp
  if va.toNat % n ≠ 0 then .fault .align va s
  else
    match s.translate va .write o with
    | (.bad c fa, s1) => .fault c fa s1
    | (.ok pa cls, s1) => s1.storeAt va pa (toBytes n (s1.g rs.toNat).toNat) cls bg o

/-! ## Branches -/

def condMet (c : Cond) (a b : Word) : Bool :=
  match c with
  | .eq => a = b
  | .ne => a ≠ b
  | .lt => a.slt b
  | .ge => !a.slt b
  | .ltu => a.ult b
  | .geu => !a.ult b

/-! ## Floating point -/

/-- A binary32 result in a register: the upper 32 bits are not stated (log 7). -/
def fpWord (dbl : Bool) (x : Nat) : Word :=
  if dbl then BitVec.ofNat 64 x else Config.fpUpper (BitVec.ofNat 32 x) ++ BitVec.ofNat 32 x

/-- A scalar floating-point operation on three source values (R323; log 6): the register value and its flags. -/
def fpOp (op : FpOp) (dbl : Bool) (a b c : Word) : Word × FFlags :=
  let f := if dbl then f64 else f32
  let v := fun (x : Word) => if dbl then x.toNat else x.toNat % 2 ^ 32
  let num := fun (r : Nat × FFlags) => (fpWord dbl r.1, r.2)
  let cmp := fun (r : Bool × FFlags) => ((if r.1 then (1 : Word) else 0), r.2)
  match op with
  | .add => num (f.fadd (v a) (v b))
  | .sub => num (f.fsub (v a) (v b))
  | .mul => num (f.fmul (v a) (v b))
  | .div => num (f.fdiv (v a) (v b))
  | .min => num (f.fmin (v a) (v b))
  | .max => num (f.fmax (v a) (v b))
  | .fma => num (f.ffma false (v a) (v b) (v c))
  | .fnma => num (f.ffma true (v a) (v b) (v c))
  | .sqrt => num (f.fsqrt (v a))
  | .neg => num (noFlag (f.fneg (v a)))
  | .abs => num (noFlag (f.fabs (v a)))
  | .rndi => num (f.frndi (v a))
  | .cmpEq => cmp (f.cmpEq (v a) (v b))
  | .cmpLt => cmp (f.cmpLt (v a) (v b))
  | .cmpLe => cmp (f.cmpLe (v a) (v b))
  | .cvt => num (if dbl then f32.cvt f64 (a.toNat % 2 ^ 32) else f64.cvt f32 a.toNat)
where
  noFlag (x : Nat) : Nat × FFlags := (x, 0)

end Sys2Proof.Machine
end

