-- ==== Sys2Proof/Machine/System.lean ====
section
/-! DEFINITION. The system instructions of major opcodes 0x38 to 0x3B.
Sections: R334, R335, R341 to R348, R363, R365 to R368, R372, R373, R384, R392. -/

namespace Sys2Proof.Machine

/-! ## Opcode 0x38 -/

/-- Encoding rules of 0x38 for a sub. -/
def sysIllegal (w : Insn) (sub : Nat) : Bool :=
  decide (opcode w ≠ 0x38) || decide (fld w 25 22 ≠ sub) || decide (fld w 21 16 ≠ 0) ||
    (decide (sub ≠ 1) && decide (fld w 15 0 ≠ 0))

/-- The frame a RETX examines (R365): its address, and whether it is the double-fault frame. -/
def State.retFrame (s : State) : Nat × Bool :=
  if s.priv = 1 then ((s.f SC_TSB_S 55 0 + 2 ^ 56 - 512) % 2 ^ 56, false)
  else if s.b SC_STATUS 2 then (s.f SC_TSB_DF 55 0, true) else (s.f SC_TSB_M 55 0, false)

/-- A frame is read: DRAM through the L2, a core-owned Yard group through the main port. -/
def State.frameRead (s : State) (a : Nat) (o : Outside) : Except (Cause × Word) (List Word) × State :=
  (List.range 8).foldl (fun p i =>
    match p with
    | (.error e, t) => (.error e, t)
    | (.ok ws, t) =>
      let la := a + 64 * i
      match t.place la with
      | .yard y =>
        if !t.owned coreOnly y 64 then (.error (.yardOwner, BitVec.ofNat 64 la), t)
        else
          let bad := t.badIn y 64
          let (bs, t1) := t.yRead y 64
          (match bad with | x :: _ => .error (.busError, BitVec.ofNat 64 (la + (x - y))) | [] => .ok (ws ++ wordsOf bs), t1)
      | .dram =>
        match t.l2Get (lineOf la) o with
        | (some d, t1) => (.ok (ws ++ wordsOf (lineBytes d)), t1)
        | (none, t1) => (.error (.busError, BitVec.ofNat 64 la), t1)
      | _ => (.error (.busError, BitVec.ofNat 64 la), t)) (.ok [], s)

/-- RETX restores the context of a frame in one step (R366). -/
def State.restoreFrame (s : State) (ws : List Word) (df : Bool) : Ran :=
  let w := fun i => ws.getD i 0
  let lvl := s.priv
  let s1 := (List.range 31).foldl (fun t i => t.setG (i + 1) (w (8 + i + 1))) s
  let s2 := (s1.setF (maskReg lvl) 3 0 (fld (w 4) 3 0)).setF SC_STATUS 1 0 (fld (w 1) 1 0)
  let s3 := s2.plainWrite TF_START (maskOf 63 0) (w 6)
  let s4 :=
    if lvl = 1 then (s3.setF SC_TSB_S 55 0 (s.f SC_TSB_S 55 0 + 2 ^ 56 - 512)).setF SC_ORIGIN_S 31 0 (fld (w 5) 63 32)
    else if df then s3.setB SC_STATUS 2 false
    else s3.setF SC_ORIGIN_M 31 0 (fld (w 5) 63 32)
  .goto s4 (w 0 &&& ~~~(3 : Word))

/-- RETX (R365, R366). -/
def State.retx (s : State) (w : Insn) (o : Outside) : Ran :=
  if sysIllegal w 0 then .fault .illegalOp 0 s
  else if s.priv = 0 then .fault .priv 0 s
  else
    let s0 := (s.drainAll o).finishSaves o
    let (a, df) := s0.retFrame
    let bad := Ran.fault .illegalReturn (BitVec.ofNat 64 a)
    if s0.priv = 1 ∧ (s0.f SC_TSB_S 55 0 < s0.f SC_TSB_BASE_S 55 0 + 512) then bad s0
    else
      match s0.frameRead a o with
      | (.error (c, fa), s1) => .fault c fa s1
      | (.ok ws, s1) =>
        let p := fld (ws.getD 1 0) 1 0
        let origin := fld (ws.getD 5 0) 31 0
        if p = 3 ∨ s1.priv < p then bad s1
        else if (if df then decide (origin / 2 ^ 30 ≠ 3) else decide (origin ≠ s1.f (orgReg s1.priv) 31 0)) then bad s1
        else s1.restoreFrame ws df

/-- SVC (R344): SERVICE, with the pc of the next instruction. -/
def State.svc (s : State) (w : Insn) : Ran :=
  if sysIllegal w 1 then .fault .illegalOp 0 s
  else
    let t : State := { s with core := { s.core with passBp := s.core.passed } }
    .hold (t.syncFault .service (BitVec.ofNat 64 (fld w 15 0)) (s.core.pc + 4) w)

/-- IFLUSH (R343). -/
def State.iflush (s : State) (w : Insn) (o : Outside) : Ran :=
  if sysIllegal w 2 then .fault .illegalOp 0 s
  else
    let t := s.drainAll o
    .done { t with core := { t.core with l1i := [] } }

/-- FENCE (R344, R358, R363): an eligible LATE_BUS_ERROR is raised before it completes. -/
def State.fence (s : State) (w : Insn) (o : Outside) : Ran :=
  if sysIllegal w 3 then .fault .illegalOp 0 s
  else
    let t := (s.drainAll o).finishSaves o
    if t.eligible 0x19 then
      match t.chosenIrq with
      | some c => .hold (t.takeIrq c)
      | none => .done t
    else .done t

/-- WAITI (R344): the core waits for an eligible interrupt, its pc at the next instruction. -/
def State.waiti (s : State) (w : Insn) : Ran :=
  if sysIllegal w 4 then .fault .illegalOp 0 s
  else
    let t := s.retire (s.core.pc + 4)
    .hold { t with core := { t.core with run := .waiti } }

/-- The major opcodes that R49 and R323 assign. -/
def opcodeAssigned (w : Insn) : Bool :=
  let o := opcode w
  [0x00, 0x01, 0x02, 0x03, 0x04, 0x05, 0x08, 0x09, 0x0C, 0x0D, 0x0E, 0x10].contains o || (decide (0x20 ≤ o) && decide (o ≤ 0x25)) ||
    (decide (0x28 ≤ o) && decide (o ≤ 0x2C)) || (decide (0x30 ≤ o) && decide (o ≤ 0x34)) || (decide (0x38 ≤ o) && decide (o ≤ 0x3B))

/-! ## MFS and MTS (R345, R367, R392) -/

/-- The window offset of the register an MFS or MTS names. -/
def sysReg (w : Insn) : Nat := (if bit w 24 then 0x80000 else 0x70000) + 8 * fld w 23 13

/-- Encoding rules of 0x39 for a direction. -/
def mfsIllegal (w : Insn) (dir : Bool) : Bool :=
  decide (opcode w ≠ 0x39) || (bit w 25 != dir) || decide (fld w 12 5 ≠ 0) || (regRow (sysReg w)).isNone

/-- Least privilege to read a register. -/
def sysRead (o : Nat) : Nat :=
  if o = SC_STATUS ∨ o = SC_FFLAGS then 0
  else if (SC_MASK_M ≤ o ∧ o ≤ SC_ORIGIN_M) ∨ o = SC_ROUTE ∨ o = SC_RSTINFO then 2
  else 1

/-- Least privilege to write a register; 3: none may (an MTS raises PRIV at every level, R392). -/
def State.sysWrite (s : State) (o : Nat) : Nat :=
  if o = SC_STATUS ∨ o = SC_LBE_ADDR ∨ o = SC_SEQ ∨ o = SP_REFILL ∨ o = SP_WALKADDR ∨ SP_SPAN_W0 16 ≤ o then 3
  else if o = SC_FFLAGS then 0
  else if o = SC_ORIGIN_S ∨ (SC_MASK_M ≤ o ∧ o ≤ SC_RSTINFO) ∨ o = SP_CTRL then 2
  else if SP_SPAN_W0 0 ≤ o ∧ (o - SP_SPAN_W0 0) / 0x20 < s.f SP_CTRL 7 4 then 2
  else 1

/-- MFS. -/
def State.mfs (s : State) (w : Insn) : Ran :=
  let o := sysReg w
  if mfsIllegal w false then .fault .illegalOp 0 s
  else if s.priv < sysRead o then .fault .priv 0 s
  else let (v, s1) := s.readReg o; .done (s1.setG (fld w 4 0) v)

/-- One handler of a vector table: its address, then its line through execute permission (R341, R368). -/
def State.handlerLine (s : State) (h : Word) (o : Outside) : Except (Cause × Word) Line × State :=
  match s.translate h .fetch o with
  | (.bad c fa, s1) => (.error (c, fa), s1)
  | (.ok pa cls, s1) =>
    match s1.coreRead h (pa - pa % 64) 64 cls o with
    | (.bytes bs, s2) => (.ok (ofLine bs), s2)
    | (.bad c fa, s2) => (.error (c, fa), s2)

/-- The entry store of a table: handlers k to 63 in order. -/
def vectorGo (base : Word) (o : Outside) : Nat → Nat → List (Word × Line) → State → Except (Cause × Word) (List (Word × Line)) × State
  | 0, _, acc, s => (.ok acc, s)
  | n + 1, k, acc, s =>
    let va := base + BitVec.ofNat 64 (8 * k)
    match s.translate va .read o with
    | (.bad c fa, s1) => (.error (c, fa), s1)
    | (.ok pa cls, s1) =>
      match s1.coreRead va pa 8 cls o with
      | (.bad c fa, s2) => (.error (c, fa), s2)
      | (.bytes bs, s2) =>
        let h : Word := BitVec.ofNat 64 (ofBytes bs)
        match s2.handlerLine h o with
        | (.error e, s3) => (.error e, s3)
        | (.ok l, s3) => vectorGo base o n (k + 1) (acc ++ [(h, l)]) s3

/-- MTS to SC_VBASE_S or SC_VBASE_M (R341, R368). -/
def State.setVbase (s : State) (r : Nat) (v : Word) (o : Outside) : Ran :=
  match vectorGo (v &&& ~~~(maskOf 8 0)) o 64 0 [] s with
  | (.error (c, fa), s1) => .fault c fa s1
  | (.ok es, s1) =>
    let s2 := s1.plainWrite r (maskOf 63 0) v
    .done { s2 with core := (if r = SC_VBASE_S then { s2.core with entryS := es } else { s2.core with entryM := es }) }

/-- MTS to W3 of a pinned register (R372): with V it is checked as it will stand. -/
def State.setSpanW3 (s : State) (r : Nat) (v : Word) : Ran :=
  let i := (r - SP_SPAN_W0 0) / 0x20
  let s1 := s.plainWrite r (maskOf 63 0) v
  if bit v 63 ∧ s1.malformed (s1.spanW i) then
    .fault .walkFormat (BitVec.ofNat 64 (fld (s.rd (SP_SPAN_W0 i)) 55 16 * 65536))
      ((s.wrSet SP_WALKINFO (BitVec.ofNat 64 (2 ^ 63 + 6 * 2 ^ 56 + i))).wr SP_WALKADDR 0)
  else .done s1

/-- MTS (R345, R368, R384, R392). -/
def State.mts (s : State) (w : Insn) (o : Outside) : Ran :=
  let r := sysReg w
  if mfsIllegal w true then .fault .illegalOp 0 s
  else if s.priv < s.sysWrite r then .fault .priv 0 s
  else
    let v := s.g (fld w 4 0)
    let t := s.drainAll o
    if r = SC_VBASE_S ∨ r = SC_VBASE_M then t.setVbase r v o
    else if r = SC_MASK_M then
      let t1 := t.plainWrite r (maskOf 63 0) v
      .done (if fld v 3 0 < 15 then t1.setB SC_STATUS 2 false else t1)
    else if r = SP_TABLEN then .done ((t.wr r (BitVec.ofNat 64 (min (fld v 12 0) 4096))).spinvAll)
    else if r = SP_TABLE then .done ((t.plainWrite r (maskOf 63 0) v).spinvAll)
    else if SP_SPAN_W0 0 ≤ r ∧ (r - SP_SPAN_W0 0) % 0x20 = 0x18 then t.setSpanW3 r v
    else .done (t.plainWrite r (maskOf 63 0) v)

/-! ## CMO (R334, R335, R346) -/

def cmoOp (w : Insn) : Nat := fld w 25 24
def cmoCache (w : Insn) : Nat := fld w 23 22
def cmoForm (w : Insn) : Bool := bit w 21

/-- Encoding rules of CMO. -/
def cmoIllegal (w : Insn) (v : Word) : Bool :=
  let set := fld v 10 0
  let way := fld v 19 16
  decide (opcode w ≠ 0x3A) || decide (cmoOp w = 3) || decide (fld w 20 5 ≠ 0) ||
    (cmoForm w && (decide (cmoCache w = 3) || (decide (cmoCache w < 2) && (decide (255 < set) || decide (3 < way)))))

/-- The line of an L2 is written to memory if it is dirty, and clean from then on (R332, R334): the lowest failing byte. -/
def State.l2Clean (s : State) (line : Nat) (o : Outside) : Option Nat × State :=
  match s.l2Find line with
  | some x =>
    if !x.dirty then (none, s)
    else if x.err = .hard then (some (line * 64), s)
    else
      let (e, t) := (if x.err = .soft then s.coreError else s).writeOut line (lineBytes x.data) o
      (e, t.l2Set x.set x.way (some { x with dirty := false, err := .ok }))
  | none => (none, s)

/-- The line of an L2 is discarded with its L1 copies. -/
def State.l2Drop (s : State) (line : Nat) : State :=
  let t := s.l1Drop line
  match t.l2Find line with
  | some x => t.l2Set x.set x.way none
  | none => t

/-- An operation on one line: the caches named (R334); the store buffer has drained, as the operation restores program order (R329). -/
def State.cmoLine (s : State) (op cache line : Nat) (o : Outside) : Ran :=
  let s2 := if s.saving (64 * line) 64 then s.finishSaves o else s
  let clean := decide (op ≠ 1)
  let inval := decide (op ≠ 0)
  let (e, s3) := if decide (2 ≤ cache) && clean then s2.l2Clean line o else (none, s2)
  match e with
  | some a => .fault .busError (BitVec.ofNat 64 a) s3
  | none =>
    .done (if !inval then s3
      else if cache = 0 then { s3 with core := { s3.core with l1d := s3.core.l1d.filter (fun p => decide (p.1 ≠ line)) } }
      else if cache = 1 then { s3 with core := { s3.core with l1i := s3.core.l1i.filter (fun p => decide (p.1 ≠ line)) } }
      else s3.l2Drop line)

/-- The line a way of a set holds. -/
def State.wayLine (s : State) (cache set way : Nat) : Option Nat :=
  let l1 := fun (l : List (Nat × Nat × Line)) => (l.find? (fun p => decide (p.1 % 256 = set) && decide (p.2.1 = way))).map (·.1)
  match cache with
  | 0 => l1 s.core.l1d
  | 1 => l1 s.core.l1i
  | _ => (s.core.l2.find? (fun x => decide (x.set = set) && decide (x.way = way))).map L2Line.line

/-- CMO. -/
def State.cmo (s : State) (w : Insn) (o : Outside) : Ran :=
  let v := s.g (fld w 4 0)
  if cmoIllegal w v then .fault .illegalOp 0 s
  else if s.priv = 0 ∧ (cmoOp w ≠ 0 ∨ cmoForm w) then .fault .priv 0 s
  else if cmoForm w then
    let t := s.drainAll o
    match t.wayLine (cmoCache w) (fld v 10 0) (fld v 19 16) with
    | some line => t.cmoLine (cmoOp w) (cmoCache w) line o
    | none => .done t
  else
    match (s.drainAll o).translate v .read o with
    | (.bad c fa, s1) => .fault c fa s1
    | (.ok pa cls, s1) =>
      if cls = some .dram ∨ cls = some .remote then s1.cmoLine (cmoOp w) (cmoCache w) (lineOf pa) o else .done s1

/-! ## SPINV (R347, R384) -/

/-- Form 1: every refilled register that covers an address. -/
def State.spinvAt (s : State) (a : Nat) : State :=
  (s.spanHits a).foldl (fun t i => if 16 ≤ i then t.setB (SP_SPAN_W3 i) 63 false else t) s

/-- SPINV. -/
def State.spinv (s : State) (w : Insn) (o : Outside) : Ran :=
  let form := fld w 25 24
  if opcode w ≠ 0x3B ∨ 1 < form ∨ fld w 23 5 ≠ 0 ∨ (form = 0 ∧ fld w 4 0 ≠ 0) then .fault .illegalOp 0 s
  else if s.priv = 0 then .fault .priv 0 s
  else
    let t := s.drainAll o
    .done (if form = 0 then t.spinvAll else t.spinvAt (t.g (fld w 4 0)).toNat)

end Sys2Proof.Machine
end

