-- ==== Sys2Proof/Machine/CoreEvents.lean ====
section
/-! DEFINITION. What the core does beside its instructions: walks, store-buffer drains, fills, recognition of interrupts, entry of
faults, the end of a frame save, the timer. Sections: R328 to R331, R337, R351, R357, R363, R380. -/

namespace Sys2Proof.Machine

/-- A walk for an access that matches no register (R374, R380). -/
def State.walkFor (s : State) (va : Word) (o : Outside) : Ran :=
  if !s.b SP_CTRL 0 ∨ 2 ^ 56 ≤ va.toNat ∨ s.spanHits va.toNat ≠ [] then .hold s
  else
    match s.walk va.toNat o with
    | (some _, _, s1) => .hold s1
    | (none, c, s1) => .fault c va s1

/-- A line is filled into the L2 if it is absent, and into the L1 that missed (R327, R330); a failing fill fills nothing, and the
access that missed reports it. -/
def State.fillLine (s : State) (line : Nat) (code : Bool) (o : Outside) : State :=
  match s.l2Get line o with
  | (none, t) => t
  | (some d, t) =>
    { t with core := (if code then { t.core with l1i := lruPut line d t.core.l1i } else { t.core with l1d := lruPut line d t.core.l1d }) }

end Sys2Proof.Machine
end

