-- ==== Sys2Proof/Machine/Mail.lean ====
section
/-! DEFINITION. Mail: the draw of a slot at its deadline, the lines and the record that go to the consumer.
Sections: R58, R87 to R92, R97, R314 to R316. -/

namespace Sys2Proof.Machine

/-- A draw is served from the substitute in any case (R86, R90, R92, R97). -/
def State.forcedSub (s : State) (dl : Nat) : Bool :=
  s.tt = 4 || s.seq.allSubst || (match s.seq.substFrom with | some c => decide (c < dl) | none => false)

/-- The draw record of a draw (R315). -/
def Draw.record (d : Draw) : Word :=
  BitVec.ofNat 64 ((if d.sub then 2 ^ 63 else 0) + (if d.drop then 2 ^ 62 else 0) + d.k * 2 ^ 58 + (d.len - 1) * 2 ^ 48 + d.leg)

/-- The record of a draw leaves, or joins its queue, and the draw is over (R315, R316). -/
def State.recordOut (s : State) (d : Draw) : State :=
  let a := s.mailBase d.k + 0x10000
  let s1 : State := { s with mail := { s.mail with draws := s.mail.draws.filter (fun e => decide (e.k ≠ d.k)) } }
  if s1.mail.recs.isEmpty ∧ s1.mail.held < 64 then s1.mailSend a (toBytes 8 d.record.toNat)
  else { s1 with mail := { s1.mail with recs := s1.mail.recs ++ [(a, d.record)] } }

/-- A draw that an earlier leg left without its record is over. -/
def State.endOldDraw (s : State) (k : Nat) : State :=
  match s.mail.draws.find? (fun d => decide (d.k = k)) with
  | some d => s.recordOut d
  | none => s

/-- The sample of a slot's tag word at its deadline (R88, R90, R456): whether the buffer is given, and the state. -/
def State.mailSample (s : State) (k dl : Nat) : Bool × State :=
  let w := s.mailTag k
  let hit := s.served 2 k (bankOf w) dl
  let full := hit && s.tag w
  let s1 := if hit then s.seeWord w else s
  let s2 := if hit then s1.retag w false idHorn opMail else s1
  if s.forcedSub dl then (false, s2)
  else if full then (true, s2)
  else (false, (s2.setB HN_MAIL_STATUS k true).guard 2 k 0)

/-- The draw of an enabled slot begins at its deadline (R88); its record is due after its last line. -/
def State.drawMail (s : State) (k : Nat) : State :=
  let dl := s.mailD k
  let s0 := (s.endOldDraw k).advanceTo dl
  let (own, s1) := s0.mailSample k dl
  let w := s1.rd (if own then HN_MAIL_BUF k else HN_MAIL_SUB k)
  let d : Draw := ⟨k, !own, dl, bufOff w, bufLen w, 0, false, s1.leg.toNat⟩
  let s2 : State := { s1 with mail := { s1.mail with draws := s1.mail.draws ++ [d] } }
  s2.later (bufLen w) (.mailDrawRecord (BitVec.ofNat 4 k))

/-- A slot may still be drawn in this leg. -/
def State.drawable (s : State) (k : Nat) : Bool :=
  s.legOpen && !s.opening && s.mailOn && s.mailEn k && decide (s.cycle ≤ s.mailD k) &&
    !s.mail.draws.any (fun d => decide (d.k = k) && decide (d.leg = s.leg.toNat))

/-- A MAIL credit frees; a queued line leaves with it, or else a queued record (R297, R316). -/
def State.mailCredit (s : State) : State :=
  if s.mail.held = 0 then s
  else
    let s1 : State := { s with mail := { s.mail with held := s.mail.held - 1 } }
    match s1.mail.lines, s1.mail.recs with
    | (a, bs) :: r, _ => ({ s1 with mail := { s1.mail with lines := r } } : State).mailSend a bs
    | [], (a, w) :: r => ({ s1 with mail := { s1.mail with recs := r } } : State).mailSend a (toBytes 8 w.toNat)
    | [], [] => s1

/-- After the last line of a draw its record is written (R315). -/
def State.drawRecord (s : State) (k : Nat) : State :=
  match s.mail.draws.find? (fun d => decide (d.k = k)) with
  | none => s
  | some d =>
    let s1 := if d.next < d.len ∧ d.leg = s.leg.toNat then s.advanceTo (d.dl + d.len) else s
    match s1.mail.draws.find? (fun e => decide (e.k = k)) with
    | some e => s1.recordOut e
    | none => s1

/-- A leg is cut: lines not yet read are neither read nor sent, and the records carry DROP (R54). -/
def State.cutDraws (s : State) : State :=
  let stop := fun (d : Draw) => if d.next < d.len then { d with next := d.len, drop := true } else d
  { s with mail := { s.mail with draws := s.mail.draws.map stop } }

end Sys2Proof.Machine
end

