-- ==== Sys2Proof/Machine/Relay.lean ====
section
/-! DEFINITION. Relay lanes: frames as they arrive, wait and land, lanes that go down and come up, and the drag levels.
Sections: R35, R86, R303, R307 to R313, R444, R456, R458. -/

namespace Sys2Proof.Machine

/-! ## Frames as they arrive -/

/-- Fields of a frame. -/
def frDst (f : BitVec 2208) : Nat := fld f 36 16 * 256
def frTx (f : BitVec 2208) : Nat := fld f 90 64

/-- The header names another block, a reserved bit is set, or DST lies past the last frame of the Yard (R309, step 2). -/
def State.headerBad (s : State) (f : BitVec 2208) : Bool :=
  decide (fld f 63 37 ≠ 0) || decide (fld f 15 10 ≠ 0) || decide (fld f 127 109 ≠ 0) || decide (fld f 95 91 ≠ 0) ||
    decide (fld f 9 6 ≠ s.pins.blk.toNat) || decide (fld f 5 0 ≠ s.pins.pkg.toNat) || decide (0x17FFFF00 < frDst f)

/-! ## The reservation map as it stands (R75) -/

/-- Fields of map entry j of the image at an offset: class, index, user, first, last. -/
def State.mapEntry (s : State) (img j : Nat) : Nat × Nat × Nat × Nat × Nat :=
  let a := s.yard.mem.num (img + 0x28) 8 + 16 * j
  let lo := s.yard.mem.num a 8
  let hi := s.yard.mem.num (a + 8) 8
  (hi % 256, hi / 256 % 65536, hi / 2 ^ 24 % 256, lo % 2 ^ 32, lo / 2 ^ 32)

/-- The relay entries of an image's map: bank, first and last cycle. -/
def State.relayMapOf (s : State) (img : Nat) : List (Nat × Nat × Nat) :=
  (List.range (min (s.yard.mem.num (img + 0x24) 4) 1048576)).filterMap (fun j =>
    let (c, i, u, a, b) := s.mapEntry img j
    if c = 0x10 ∧ u = 0xFD then some (i, a, b) else none)

/-- Entries cover cycles L to L + 3 of a bank. -/
def covers (m : List (Nat × Nat × Nat)) (bank l : Nat) : Bool :=
  (List.range 4).all (fun j => m.any (fun e => decide (e.1 = bank) && decide (e.2.1 ≤ l + j) && decide (l + j ≤ e.2.2)))

/-- Whether the running timetable's map books a landing (R309, step 4). Where its map was written while it runs, the map as
admitted or as written is used: a free choice (R458, log 7). -/
def State.mapBooks (s : State) (bank l : Nat) : Bool × State :=
  match s.seq.image with
  | none => (false, s)
  | some im =>
    let a := covers im.relayMap bank l
    let b := covers (s.relayMapOf im.off) bank l
    if a = b then (a, s) else (let (x, t) := s.flip; (if x then a else b, t))

/-! ## Arrival and landing (R309 to R311) -/

/-- Landings of the same bank that meet one at cycle `land` (R309, step 6). -/
def LFrame.meets (x : LFrame) (dst land : Nat) : Bool :=
  decide (bankOf x.dst = bankOf dst) && decide (x.land ≤ land + 3) && decide (land ≤ x.land + 3)
/-- A frame of an earlier ACLK, or of the same ACLK on a lower lane, comes before one on lane l. -/
def State.before (s : State) (x : LFrame) (l : Nat) : Bool := decide (x.at_ ≠ s.time.toNat) || decide (x.lane < l)

/-- The reason a frame is refused with, of checks 2 to 6; 0 for none. -/
def State.refusal (s : State) (l a : Nat) (f : BitVec 2208) : Nat × State :=
  let dst := frDst f
  let land := frTx f + s.f (RL_LANE_CFG l) 19 0 + 36
  let own := s.owner dst
  let (book, s1) := if own = ownTt ∧ (s.tt = 1 ∨ s.tt = 2 ∨ s.tt = 4) then s.mapBooks (bankOf dst) land else (false, s)
  if s.headerBad f then (1, s)
  else if land < a then (2, s)
  else if s.f HN_PERIOD 26 0 - 1 < land + 3 then (3, s)
  else if own ≠ ownRelay ∧ !book then (4, s1)
  else if 8 ≤ (s.relay.landing.filter (fun x => decide (x.lane = l))).length then (5, s1)
  else if s.relay.landing.any (fun x => x.meets dst land && s.before x l) then (7, s1)
  else (0, s1)

/-- HL_ERR_LANE of a port counts (R444, R447). -/
def State.laneError (s : State) (p : Nat) : State :=
  s.unitError (HL_ERR_LANE p) (s.f HL_THRESH 35 24) (BitVec.ofNat 16 (0x800 + p))

/-- A relay port runs its loopback test, in which it neither sends nor receives (R446). -/
def State.portTest (s : State) (p : Nat) : Bool :=
  match s.coach.test with
  | some j => decide (j.unit = BitVec.ofNat 16 (0x800 + p)) && (!j.waits || s.noTimetable || s.inspecting 4)
  | none => false

/-- A lane receives (R309, R446). -/
def State.laneOn (s : State) (l : Nat) : Bool :=
  s.b (RL_LANE_CFG l) 63 && bit s.pins.lock (s.port l) && !s.portTest (s.port l)

/-- Frames that arrived in this ACLK on higher lanes give way to one that lands at cycle `land` (R309, step 6). -/
def State.giveWay (s : State) (l dst land : Nat) : State :=
  let out := fun (x : LFrame) => x.meets dst land && !s.before x l
  (s.relay.landing.filter out).foldl (fun t x => t.refuse x.lane 7)
    { s with relay := { s.relay with landing := s.relay.landing.filter (fun x => !out x) } }

/-- A frame is fully received at cycle a (R309); one that was in reception at cycle 0 on the port that then left the lane is discarded
(R313). -/
def State.frameArrives (s0 : State) (l : Nat) (f : BitVec 2208) (a : Nat) (leaving : Bool) : State :=
  let s := s0.advanceTo a
  if leaving ∧ s.ostler.moved.contains l then (if s.b (RL_LANE_CFG l) 63 then s.refuse l 6 else s)
  else if !s.laneOn l then s
  else if !frameCrcOk f then ((s.count (RL_CNT_CRC l) 1).laneError (s.port l)).guard 5 l 0
  else
    match s.refusal l a f with
    | (0, s1) =>
      let tx := frTx f
      let route := s.f (RL_LANE_CFG l) 19 0
      let s2 := s1.giveWay l (frDst f) (tx + route + 36)
      let x : LFrame := ⟨l, s.time.toNat, frDst f, tx + route + 36, (a : Int) - (tx + route : Nat), ((frameBytes f).drop 16).take 256, 0, false⟩
      { s2 with relay := { s2.relay with landing := s2.relay.landing ++ [x] } }
    | (r, s1) => s1.refuse l r

/-- The first frame of a lane to land, if one waits. -/
def State.firstFrame (s : State) (l : Nat) : Option LFrame :=
  (s.relay.landing.filter (fun x => decide (x.lane = l))).foldl (fun b x => match b with
    | none => some x
    | some y => if x.land < y.land then some x else some y) none

/-- A leg is cut: a frame that has not landed its last line lands no further one (R309); one that lost a line is counted already. -/
def State.cutLandings (s : State) : State :=
  let s1 := s.relay.landing.foldl (fun t x => if x.lost then t.setF (RL_LANE_STATUS x.lane) 58 56 3 else t.refuse x.lane 3) s
  { s1 with relay := { s1.relay with landing := [] } }

/-! ## Lanes (R312) -/

/-- The logical lane a port serves. -/
def State.laneOf (s : State) (p : Nat) : Option Nat := findBelow 8 (fun l => decide (s.port l = p))

/-- UP of a port falls: DOWN is set, the fall is counted, and what is in transmission is lost (R308, R312, R444). -/
def State.portDown (s : State) (p : Nat) : State :=
  let s1 : State := { s with pins := { s.pins with lock := setBit s.pins.lock p false } }
  if !bit s.pins.lock p ∨ s.phase ≠ .run then s1
  else
    let s2 := s1.laneError p
    match s.laneOf p with
    | none => s2
    | some l =>
      let s3 := s2.setB (RL_LANE_STATUS l) 62 true
      let lost := fun (x : TxFrame) => decide (x.lane = l) && x.sending
      if s3.relay.tx.any lost then
        let s4 := (s3.setB (RL_LANE_STATUS l) 61 true).send (.relayLost l)
        { s4 with relay := { s4.relay with tx := s4.relay.tx.map (fun x => if lost x then { x with sending := false } else x) } }
      else s3

/-! ## Drag (R86, R303) -/

/-- The devices above HN_CTRL.DRAG_TOL. -/
def State.aboveTol (s : State) : List Nat :=
  (List.range 12).filter (fun d => decide (s.f HN_CTRL 11 10 < s.f RL_DRAG (2 * d + 1) (2 * d)))

/-- Devices above tolerance are recorded, and UNS credits withheld while there are any. -/
def State.dragCheck (s : State) : State :=
  let l := s.aboveTol
  if l.isEmpty then s else (l.foldl (fun t d => t.setB RL_DRAG (32 + d) true) s).setB RL_DRAG 63 true

end Sys2Proof.Machine
end

