-- ==== Sys2Proof/Machine/Mem.lean ====
section
/-! DEFINITION. Memory as the tile and vector instructions reach it in core mode: past the caches, row by row, in any class that
a span maps. Sections: R182, R184, R219, R221, R336, R371. -/

namespace Sys2Proof.Machine

/-- A stretch of a virtual range inside one 64 KiB unit, and so in one span and one class (R370, R371). -/
structure Piece where
  va  : Nat
  pa  : Nat
  n   : Nat
  cls : Option MemClass
deriving DecidableEq, Repr

/-- The pieces of a virtual range, or the lowest span fault. The fuel bounds the pieces. -/
def piecesGo (k : Access) (o : Outside) : Nat → Nat → Nat → List Piece → State → Except (Cause × Word) (List Piece) × State
  | 0, _, _, acc, s => (.ok acc, s)
  | f + 1, va, n, acc, s =>
    if n = 0 then (.ok acc, s)
    else
      match s.translate (BitVec.ofNat 64 va) k o with
      | (.bad c fa, s1) => (.error (c, fa), s1)
      | (.ok pa cls, s1) =>
        let l := min n (65536 - va % 65536)
        piecesGo k o f (va + l) (n - l) (acc ++ [⟨va, pa, l, cls⟩]) s1

/-- The lowest virtual address of a piece in a group that the core does not own (R182, R336). -/
def State.pieceOwner (s : State) (p : Piece) : Option Word :=
  if p.cls ≠ some .yard then none
  else
    match s.place p.pa with
    | .yard y => if s.owned coreOnly y p.n then none else some (BitVec.ofNat 64 (p.va + s.ownedUpTo coreOnly y p.n))
    | _ => none

/-- The pieces of a range that the instruction may use: span faults first, then ownership (R50). -/
def State.rangeOf (s : State) (k : Access) (va : Word) (n : Nat) (o : Outside) : Except (Cause × Word) (List Piece) × State :=
  match piecesGo k o (n / 65536 + 2) va.toNat n [] s with
  | (.error e, s1) => (.error e, s1)
  | (.ok ps, s1) =>
    match (ps.filterMap s1.pieceOwner).head? with
    | some fa => (.error (.yardOwner, fa), s1)
    | none => (.ok ps, s1)

/-- Registers of the window read in ascending order, 8 bytes at a time (R182). -/
def State.windowReads (s : State) (w n : Nat) : List Byte × State :=
  (List.range (n / 8)).foldl (fun p i =>
    match p.2.windowRead (w + 8 * i) 8 with
    | (some bs, t) => (p.1 ++ bs, t)
    | (none, t) => (p.1, t)) ([], s)

/-- The first address of a range that memory outside does not answer. -/
def Outside.missing (o : Outside) (a n : Nat) : Nat :=
  (findFrom (fun i => !(o.rd.any (fun p => decide (p.1 = i)))) n a).getD a

/-- The bytes of a piece, or the lowest physical address with an error (R333). -/
def State.pieceRead (s : State) (p : Piece) (o : Outside) : Except Nat (List Byte) × State :=
  match p.cls, s.place p.pa with
  | none, _ => (.error p.pa, s)
  | some .yard, .yard y =>
    let bad := s.badIn y p.n
    let (bs, s1) := s.yRead y p.n
    (match bad with | w :: _ => .error (p.pa + (w - y)) | [] => .ok bs, s1)
  | some .mmio, .window w => let (bs, s1) := s.windowReads w p.n; (.ok bs, s1)
  | _, _ =>
    match o.get p.pa p.n with
    | some bs => (.ok bs, s)
    | none => (.error (Outside.missing o p.pa p.n), s)

/-- The bytes of a range. -/
def State.piecesRead (s : State) (ps : List Piece) (o : Outside) : Except Nat (List Byte) × State :=
  ps.foldl (fun a p =>
    match a with
    | (.error e, t) => (.error e, t)
    | (.ok bs, t) =>
      match t.pieceRead p o with
      | (.ok l, t1) => (.ok (bs ++ l), t1)
      | (.error e, t1) => (.error e, t1)) (.ok [], s)

/-- A piece is written: the lowest physical address with an error response. -/
def State.pieceWrite (s : State) (p : Piece) (bs : List Byte) (o : Outside) : Option Nat × State :=
  match p.cls, s.place p.pa with
  | none, _ => (some p.pa, sendReqs .ctl false (p.n / 512 + 2) p.pa bs s)
  | some .yard, .yard y => (none, s.yWrite y bs)
  | some .mmio, .window w =>
    (none, (List.range (p.n / 8)).foldl (fun t i => (t.windowWrite .core (w + 8 * i) 8 (ofBytes ((bs.drop (8 * i)).take 8))).2) s)
  | some .mmio, _ =>
    (o.wrBad p.pa p.n,
      (List.range (p.n / 8)).foldl (fun t i => t.send (.fabWrite .ctl (p.pa + 8 * i) ((bs.drop (8 * i)).take 8))) s)
  | _, _ => (o.wrBad p.pa p.n, sendReqs .ctl false (p.n / 512 + 2) p.pa bs s)

/-- A range is written. -/
def State.piecesWrite (s : State) (ps : List Piece) (bs : List Byte) (o : Outside) : Option Nat × State :=
  (ps.foldl (fun (a : Option Nat × List Byte × State) p =>
    let (e, t) := a.2.2.pieceWrite p (a.2.1.take p.n) o
    (a.1.orElse (fun _ => e), a.2.1.drop p.n, t)) (none, bs, s)) |> fun a => (a.1, a.2.2)

end Sys2Proof.Machine
end

