-- ==== Sys2Proof/Machine/Tile.lean ====
section
/-! DEFINITION. The tile instructions in core mode: TLD, TST, TSHAPE, TZERO, TRELEASE, TSCALE, TSAVE, TRESTORE.
Sections: R170 to R200. -/

namespace Sys2Proof.Machine

/-! ## TLD and TST (R181 to R189) -/

/-- One row of a core-mode TLD or TST: span faults, YARD_OWNER, BUS_ERROR, then its move (R184). -/
def State.moveRow (s : State) (w : Insn) (site : Site) (o : Outside) (r : Nat) : Option (Cause × Word) × State :=
  let st := tlStore w
  let n := (s.tlConv w).wm (s.tileW (tlTile w))
  match s.rangeOf (if st then .write else .read) (rowAddr site r) n o with
  | (.error e, s1) => (some e, s1)
  | (.ok ps, s1) =>
    if st then
      let (bs, clamp, nan, fl) := s1.storeRow (s1.tlConv w) w r (s1.tileW (tlTile w))
      match s1.piecesWrite ps bs o with
      | (some a, s2) => (some (.busError, BitVec.ofNat 64 a), s2)
      | (none, s2) => (none, s2.rowFlags clamp nan fl)
    else
      match s1.piecesRead ps o with
      | (.error a, s2) => (some (.busError, BitVec.ofNat 64 a), s2)
      | (.ok bs, s2) => (none, s2.loadRow (s2.tlConv w) w r bs)

/-- Rows of a TST that an abandonment cut short: an error among those that left is LATE_BUS_ERROR (R184), under an entry number
that the manual does not give (log 7). -/
def State.lateRow (s : State) (a : Word) : State := let (x, s1) := s.free; s1.lbe a.toNat (fld x 4 0)

/-- Rows in order up to `stop`: the row a fault stopped at, or none. `late`: the instruction is a TST that is abandoned, whose
error responses come too late for it. -/
def moveRows (w : Insn) (site : Site) (o : Outside) (late : Bool) : Nat → Nat → State → Option (Nat × Cause × Word) × State
  | 0, _, s => (none, s)
  | n + 1, r, s =>
    match s.moveRow w site o r with
    | (some (c, fa), s1) =>
      if late ∧ c = .busError then moveRows w site o late n (r + 1) (s1.lateRow fa) else (some (r, c, fa), s1)
    | (none, s1) => moveRows w site o late n (r + 1) s1

/-- Rows of a TST from the faulting one on may or may not have been written (R184): a free choice for each (log 7). -/
def State.maybeRows (s : State) (w : Insn) (site : Site) (o : Outside) (f h : Nat) : State :=
  (List.range (h - f)).foldl (fun t i =>
    let (b, t1) := t.flip
    if b then match t1.moveRow w site o (f + i) with | (none, t2) => t2 | (some _, _) => t1 else t1) s

/-- TLD and TST in core mode (R181, R182, R184, R188, R189). Of a wave of an abandoned TST that was not complete, nothing has been
written (DESIGN CHOICE, log 49: R188 does not say whether lines issued before the abandonment point have left). -/
def State.tmoveCore (s : State) (w : Insn) (site : Site) (o : Outside) (cut : Option (BitVec 7)) : Ran :=
  let t := tlTile w
  let st := tlStore w
  let kind := if st then 2 else 1
  let h := s.tileRows t
  let start := s.startRow kind t site
  let c := s.tlConv w
  let s0 := s.drainAll o
  let first := s0.rangeOf (if st then .write else .read) (rowAddr site start) (c.wm (s0.tileW t)) o
  if h ≤ start then .done (s0.clearStart site)
  else
    match first with
    | (.error (e, fa), s1) => .fault e fa (s1.setStart kind t start site)
    | (.ok _, s1) =>
      if !c.ok st then (s1.tfFault w site 9).starting kind t start site
      else
        let stop := cutRow start h cut
        match moveRows w site o (st && decide (stop < h)) (stop - start) start s1 with
        | (some (f, e, fa), s2) => .fault e fa ((if st then s2.maybeRows w site o f h else s2).setStart kind t f site)
        | (none, s2) => if stop < h then .hold (s2.setStart kind t stop site) else .done (s2.clearStart site)

/-- TLD and TST up to their rows (R184): the instruction-wide checks. ALIGN reports the register that is misaligned, the base first
(DESIGN CHOICE, log 49: R354 says `the address` alone). -/
def State.tmove (s : State) (w : Insn) (site : Site) (st : Bool) (o : Outside) (cut : Option (BitVec 7)) : Ran :=
  if tldIllegal w st then .fault .illegalOp 0 s
  else if site.slot.isNone && s.tmode then .fault .tileBound 0 s
  else if site.addr.toNat % 8 ≠ 0 ∨ site.aux.toNat % 8 ≠ 0 then
    let kind := if st then 2 else 1
    (Ran.fault .align (if site.addr.toNat % 8 ≠ 0 then site.addr else site.aux) s).starting kind (tlTile w)
      (s.startRow kind (tlTile w) site) site
  else if site.slot.isSome then s.tmoveSlot w site
  else s.tmoveCore w site o cut

/-! ## TSAVE and TRESTORE (R197 to R200) -/

/-- The header of a save area (R198). -/
def State.saveHeader (s : State) (len : Nat) : List Byte :=
  toBytes 2 1 ++ toBytes 2 0 ++ toBytes 2 (s.f TF_INUSE 15 0) ++ toBytes 2 (bitsOf 16 s.accUsed) ++
    toBytes 2 (bitsOf 16 s.accInt) ++ toBytes 2 0 ++ toBytes 4 len ++
    (List.range 16).flatMap (fun t => toBytes 2 (s.f (TF_SHAPE t) 5 0 + s.f (TF_SHAPE t) 11 8 * 256)) ++
    (List.range 16).flatMap (fun a => toBytes 4 (s.f (MX_ACCSCALE a) 31 0)) ++ List.replicate 144 0

/-- The whole save area (R198). -/
def State.saveArea (s : State) : List Byte :=
  let tiles := (List.range 16).filter s.tileUsed
  let accs := (List.range 16).filter s.accUsed
  let data := tiles.flatMap (fun t => (List.range (s.tileRows t)).flatMap (fun r => s.tileRow t r (s.tileW t))) ++
    accs.flatMap (fun a => (List.range 4096).flatMap (fun k => toBytes 4 (s.accCell a k)))
  s.saveHeader ((256 + data.length) / 64) ++ data

/-- TSAVE (R197, R198). -/
def State.tsave (s : State) (w : Insn) (site : Site) (o : Outside) : Ran :=
  match s.tmCheck w site 3 with
  | some r => r
  | none =>
    if site.addr.toNat % 64 ≠ 0 then .fault .align site.addr s
    else
      let s0 := s.drainAll o
      let bs := s0.saveArea
      match s0.rangeOf .write site.addr bs.length o with
      | (.error (c, fa), s1) => .fault c fa s1
      | (.ok ps, s1) =>
        match s1.piecesWrite ps bs o with
        | (some a, s2) => .fault .busError (BitVec.ofNat 64 a) s2
        | (none, s2) => .done s2

/-- Fields of a header as read. -/
def hdr (h : List Byte) (o n : Nat) : Nat := ofBytes ((h.drop o).take n)
def hdrBits (h : List Byte) (o : Nat) : List Nat := (List.range 16).filter (fun i => (hdr h o 2) >>> i % 2 = 1)
def hdrRows (h : List Byte) (t : Nat) : Nat := hdr h (0x10 + 2 * t) 2 % 64 + 1
def hdrW (h : List Byte) (t : Nat) : Nat := (hdr h (0x10 + 2 * t) 2 / 256 % 16 + 1) * 64

/-- The size of the area a header names. -/
def hdrSize (h : List Byte) : Nat :=
  256 + ((hdrBits h 4).map (fun t => hdrRows h t * hdrW h t)).foldl (· + ·) 0 + 16384 * (hdrBits h 6).length

/-- The checks of R199. -/
def hdrBad (h : List Byte) : Bool :=
  decide (hdr h 0 2 ≠ 1) || decide (hdr h 2 2 ≠ 0) || decide (hdr h 10 2 ≠ 0) ||
    (List.range 16).any (fun t => decide (hdr h (0x10 + 2 * t) 2 / 64 % 4 ≠ 0) || decide (hdr h (0x10 + 2 * t) 2 / 4096 ≠ 0)) ||
    decide (hdr h 0x70 144 ≠ 0) || decide (hdr h 12 4 * 64 ≠ hdrSize h)

/-- A tile is restored (R199): its shape, its data, its in-use bit. -/
def State.restoreTile (s : State) (h : List Byte) (t : Nat) (bs : List Byte) : State :=
  let s1 := ((s.setF (TF_SHAPE t) 5 0 (hdrRows h t - 1)).setF (TF_SHAPE t) 11 8 (hdrW h t / 64 - 1)).tileClear t
  let s2 := ((List.range (hdrRows h t)).zip (chunksOf (hdrW h t) bs)).foldl (fun (u : State) p =>
    { u with tensor := { u.tensor with tiles := u.tensor.tiles.write (t * 65536 + p.1 * 1024) p.2 } }) s1
  (s2.setB TF_INUSE t true).dropSlices t

/-- A binary32 value as an accumulator holds it: no −0, every NaN the canonical one (R144). -/
def accValue (v : Nat) : Nat := if v = 2 ^ 31 then 0 else if (f32.dec v).isNan then f32.qnan else v

/-- An accumulator is restored (R199), FP32 values as R144 has them (DESIGN CHOICE, log 49). -/
def State.restoreAcc (s : State) (h : List Byte) (a : Nat) (bs : List Byte) : State :=
  let int := decide ((hdr h 8 2) >>> a % 2 = 1) && !s.errStore a
  let s1 := s.accReplace a ((List.range 4096).zip ((elems 4 bs).map (fun v => if int then v else accValue v)))
  (((s1.setB MX_ACCINUSE a true).setB MX_ACCTYPE a ((hdr h 8 2) >>> a % 2 = 1)).setF (MX_ACCSCALE a) 31 0
    (hdr h (0x30 + 4 * a) 4))

/-- The entries named in the masks are restored in order; the bytes that remain. -/
def State.restoreAll (s : State) (h data : List Byte) : State :=
  let (s1, rest) := (hdrBits h 4).foldl (fun (p : State × List Byte) t =>
    let n := hdrRows h t * hdrW h t
    (p.1.restoreTile h t (p.2.take n), p.2.drop n)) (s, data)
  ((hdrBits h 6).foldl (fun (p : State × List Byte) a => (p.1.restoreAcc h a (p.2.take 16384), p.2.drop 16384)) (s1, rest)).1

/-- A range read: its bytes, or the fault. -/
def State.readRange (s : State) (va : Word) (n : Nat) (o : Outside) : Except (Cause × Word) (List Byte) × State :=
  match s.rangeOf .read va n o with
  | (.error e, s1) => (.error e, s1)
  | (.ok ps, s1) =>
    match s1.piecesRead ps o with
    | (.error a, s2) => (.error (.busError, BitVec.ofNat 64 a), s2)
    | (.ok bs, s2) => (.ok bs, s2)

/-- TRESTORE (R197, R199). A fault of its data restores nothing, and no interrupt falls inside it or a TSAVE (DESIGN CHOICE, log 49:
R200 leaves open how much of an abandoned one is done). -/
def State.trestore (s : State) (w : Insn) (site : Site) (o : Outside) : Ran :=
  match s.tmCheck w site 4 with
  | some r => r
  | none =>
    if site.addr.toNat % 64 ≠ 0 then .fault .align site.addr s
    else
      match (s.drainAll o).readRange site.addr 256 o with
      | (.error (c, fa), s1) => .fault c fa s1
      | (.ok h, s1) =>
        if hdrBad h then s1.tfFault w site 11
        else
          match s1.readRange (site.addr + 256) (hdrSize h - 256) o with
          | (.error (c, fa), s2) => .fault c fa s2
          | (.ok data, s2) => .done ((s2.restoreAll h data).clearStart site)

/-! ## The commands -/

end Sys2Proof.Machine
end

