-- ==== Sys2Proof/Machine/Vector.lean ====
section
/-! DEFINITION. The vector instructions in core mode. Sections: R207 to R209, R215, R218 to R222. -/

namespace Sys2Proof.Machine

/-! ## VLD, VST, VGATH, VSCAT (R218 to R222) -/

/-- A gather's bytes for its active elements, from the offset of each. -/
def State.vmLoad (s : State) (w : Insn) (offs : List (Nat × Nat)) : List (Nat × Byte) × State :=
  let k := vSize (vmW w)
  offs.foldl (fun p q =>
    let (bs, t) := p.2.yRead q.2 k
    if t.active (vmM w) (t.vmExt w) q.1 then (p.1 ++ ((List.range k).map (fun i => vD w * 2048 + k * q.1 + i)).zip bs, t)
    else (p.1, t)) ([], s)

/-- The bytes of the active elements are written in ascending order (R218, R220). -/
def State.vmStoreAll (s : State) (w : Insn) (offs : List (Nat × Nat)) : State :=
  let k := vSize (vmW w)
  offs.foldl (fun t q => if t.active (vmM w) (t.vmExt w) q.1 then t.yWrite q.2 (t.vRead (vD w) (k * q.1) k) else t) s

/-- Translation of every element (R222): the first span fault by element, or the physical addresses with their classes. -/
def transAll (k : Access) (o : Outside) : List (Nat × Word) → List (Nat × Word × Nat × Option MemClass) → State →
    Except (Nat × Cause × Word) (List (Nat × Word × Nat × Option MemClass)) × State
  | [], acc, s => (.ok acc, s)
  | (e, va) :: t, acc, s =>
    match s.translate va k o with
    | (.bad c fa, s1) => (.error (e, c, fa), s1)
    | (.ok pa cls, s1) => transAll k o t (acc ++ [(e, va, pa, cls)]) s1

/-- The Yard offset of an element that lies in a core-owned group through a span of class Yard (R218). -/
def State.vmOff (s : State) (k : Nat) (x : Nat × Word × Nat × Option MemClass) : Option Nat :=
  match x.2.2.2, s.place x.2.2.1 with
  | some .yard, .yard y => if s.owned coreOnly y k then some y else none
  | _, _ => none

/-- VST and VSCAT in core mode (R217): where an abandonment falls inside, the accesses issued before it are made and no others, and the
instruction is counted and stays. `es`: its entries in the order they issue; `cut`: how many of them issue before the abandonment
point. -/
def State.vmStoreCore (s : State) (w : Insn) (site : Site) (offs : List (Nat × Nat)) (es : List (Nat × Nat × Nat)) (d : Nat)
    (cut : Option (BitVec 11)) : Ran :=
  let n := match cut with | some n => n.toNat | none => es.length
  if es.length ≤ n then .done (((s.vmStoreAll w offs).vmBegin site w [] d).count VX_CNT_DONE 1)
  else
    let made := es.take n
    let kept := offs.filter (fun q => made.any (fun p => decide (p.1 = if vmIndexed w then q.1 else q.2 / 64)))
    .hold ((s.vmStoreAll w kept).count VX_CNT_ABANDON 1)

/-- 0x23 in core mode. -/
def State.vmCore (s : State) (w : Insn) (site : Site) (o : Outside) (cut : Option (BitVec 11)) : Ran :=
  let k := vSize (vmW w)
  let l := s.vmAddrs w site.addr
  match l.find? (fun p => decide (p.2.toNat % k ≠ 0)) with
  | some (e, va) => s.vxFault w site .align va e
  | none =>
    if site.addr.toNat % k ≠ 0 then s.vxFault w site .align site.addr 0
    else
      match transAll (if vmStore w then .write else .read) o l [] (s.drainAll o) with
      | (.error (e, c, fa), s1) => s1.vxFault w site c fa e
      | (.ok ps, s1) =>
        match ps.find? (fun x => (s1.vmOff k x).isNone) with
        | some x => s1.vxFault w site .yardOwner x.2.1 x.1
        | none =>
          let offs := ps.filterMap (fun x => (s1.vmOff k x).map (fun y => (x.1, y)))
          let bad := offs.find? (fun q => !(s1.badIn q.2 k).isEmpty)
          match (if vmStore w then none else bad) with
          | some (e, y) => ((s1.seeRange y k).vxFault w site .busError (BitVec.ofNat 64 (s1.yardPA y)) e)
          | none =>
            let (d, es) := vmIssue w offs
            let late := (es.filter (fun p => decide ((if vmStore w then 2 else 1) < p.2.2))).length
            let s2 := if late = 0 then s1 else s1.count VX_CNT_BANKWAIT late
            let d' := if offs.isEmpty then 1 else d
            if vmStore w then s2.vmStoreCore w site offs es d' cut
            else
              let (wr, s3) := s2.vmLoad w offs
              .done (s3.vmBegin site w wr d')

/-- VLD (0), VST (1), VGATH (2), VSCAT (3). -/
def State.vmem (s : State) (w : Insn) (site : Site) (sub : Nat) (o : Outside) (cut : Option (BitVec 11)) : Ran :=
  s.vxCheck w site (vmIllegal w sub) (s.vmCore w site o cut)

/-! ## The commands -/

end Sys2Proof.Machine
end

