-- ==== Sys2Proof/Machine/Slots.lean ====
section
/-! DEFINITION. The slots of a timetable: what each does as it issues. Sections: R22, R23, R62 to R74, R76, R89, R94, R115, R185,
R186, R219, R221, R280, R281, R308, R456, R458. -/

namespace Sys2Proof.Machine

/-! ## Issue (R23, R63, R64, R456) -/

/-- P and M in force. -/
def State.P (s : State) : Nat := s.f HN_PERIOD 26 0
def State.M (s : State) : Nat := s.f HN_MARGIN 19 0

def State.lane (s : State) (i : Nat) : Lane := s.seq.lanes.toList.getD i Lane.idle
def State.setLane (s : State) (i : Nat) (l : Lane) : State :=
  { s with seq := { s.seq with lanes := s.seq.lanes.setIfInBounds i l } }

/-- A slot issues while the timetable runs, between the changeover and the margin, in a lane that has not issued END (R57, R66). -/
def State.slotOk (s : State) (a : SlotAt) : Bool :=
  let c := max a.cycle.toNat s.cycle
  s.legOpen && !s.opening && (s.tt = 1 || s.tt = 2) && decide (64 ≤ c) && decide (c < s.P - s.M) && !(s.lane a.lane.toNat).ended

/-- The lane has issued the slot. -/
def State.issued (s : State) (a : SlotAt) : State :=
  let l := s.lane a.lane.toNat
  s.setLane a.lane.toNat { l with next := a.idx.toNat + 1, last := s.cycle }

/-- COLLISION of a slot. -/
def State.slotLost (s : State) (a : SlotAt) (station : Nat) (cause : Option Nat) : State :=
  s.collision station a.lane.toNat a.idx.toNat cause

/-- The block reaches a slot's cycle: the slot issues, unless its station is busy (R23). A busy station makes a COLLISION of any slot,
one with a word that check 0x01 would refuse too (DESIGN CHOICE, log 51: R458 does not say which event is recorded). -/
def State.slot (s : State) (a : SlotAt) (station : Nat) (busy : State → Bool) (body : State → State) : State :=
  s.up (fun t =>
    if !t.slotOk a then t
    else
      let u := (t.advanceTo a.cycle.toNat).issued a
      if busy u then u.slotLost a station none else body u)

/-- A slot takes the one-cycle station of a code (YS, ML or GD) for its issue cycle; none where another slot has it (R64). -/
def State.take (s : State) (station : Nat) : Option State :=
  let p := (512 + station, s.cycle)
  if s.seq.occupied.contains p then none else some { s with seq := { s.seq with occupied := s.seq.occupied ++ [p] } }

/-- A slot that takes its one-cycle station. -/
def State.slotTakes (s : State) (a : SlotAt) (station : Nat) (body : State → State) : State :=
  match s.take station with
  | some t => body t
  | none => s.slotLost a station none

/-- A slot reaches its word in the cycle after its issue (R76). -/
def State.wordJob (s : State) (a : SlotAt) (station : Nat) (k : WordOp) (test : Insn) : State :=
  s.startJob ⟨some a, 0, 0⟩ station test 0 [(1, .word k)] (fun j => j)

/-! ## Embedded instructions (R67, R68) -/

def opInsn (x : Opnd) : Insn := BitVec.ofNat 32 (fld x 31 0)

/-- The site of an embedded instruction. -/
def opSite (a : SlotAt) (x : Opnd) : Site := ⟨some a, BitVec.ofNat 64 (fld x 60 32), BitVec.ofNat 64 (fld x 95 64)⟩

/-- What an MX slot executes. -/
def State.mxBody (s : State) (w : Insn) (site : Site) : Ran :=
  match opcode w with
  | 0x28 => s.tmma w site
  | 0x29 => s.tmmv w site
  | 0x2A => s.tdrain w site
  | _ => .fault .illegalOp 0 s

/-- What a TF slot executes: TSAVE and TRESTORE are not allowed. -/
def State.tfBody (s : State) (w : Insn) (site : Site) : Ran :=
  match opcode w with
  | 0x2B => s.tmove w site (tlStore w) ⟨[], []⟩ none
  | 0x2C =>
    if tmSub w = 3 ∨ tmSub w = 4 ∨ 5 < tmSub w then .fault .illegalOp 0 s else s.tmanage w site (tmSub w)
  | _ => .fault .illegalOp 0 s

/-- The bits of INSN that name general registers, whether the instruction takes an address, and whether it takes AUX (R68). -/
def insnTakes (w : Insn) : Nat × Bool × Bool :=
  match opcode w with
  | 0x29 => (fld w 9 0, true, true)
  | 0x2B => (fld w 9 0, true, true)
  | 0x2C => if tmSub w = 5 then (fld w 4 0, false, true) else (0, false, false)
  | 0x23 => (fld w 4 0, true, false)
  | 0x25 => if vFunc w < 2 then (fld w 15 11, false, true) else (0, false, false)
  | _ => (0, false, false)

/-- Reserved operand bits that are set, or a general register named where zero is required (R62, R68). -/
def issueBad (x : Opnd) : Bool :=
  let (regs, addr, aux) := insnTakes (opInsn x)
  decide (fld x 63 61 ≠ 0) || decide (regs ≠ 0) || (!addr && decide (fld x 60 32 ≠ 0)) || (!aux && decide (fld x 95 64 ≠ 0))

/-- The bank cycles of an MX instruction: TMMV's beats (R125). -/
def State.mxPlan (s : State) (w : Insn) (site : Site) : List (Nat × Nat) :=
  if opcode w = 0x29 then
    let f := fld site.aux 5 0
    let n := fld site.aux 13 8
    (List.range (s.tileW (mmTA w) / 8)).flatMap (fun b => (List.range (8 * (n + 1))).map (fun q => (8 * f + q, 2 + mvR w * b)))
  else []

/-- How the acceptance of an embedded instruction ends (R68): a fault is recorded with its cause, and the instruction discarded. -/
def Ran.slotEnd (r : Ran) (a : SlotAt) (station : Nat) : State :=
  match r with
  | .done t => t
  | .goto t _ => t
  | .fault c _ t => t.slotLost a station (some (causeCode c))
  | .hold t => t

/-- An embedded instruction is accepted; its operands and its results follow at their cycles. -/
def State.embed (s : State) (a : SlotAt) (x : Opnd) (station : Nat) (busy : State → Bool) (body : State → Insn → Site → Ran) : State :=
  s.slot a station busy (fun t =>
    if issueBad x then t.slotLost a station (some 1) else (body t (opInsn x) (opSite a x)).slotEnd a station)

/-- MX_COMMIT (R109): the block reaches the commit cycle of the oldest instruction in flight. -/
def State.mxCommitNow (s : State) : State :=
  match s.tensor.mx with
  | [] => s
  | op :: _ =>
    let t := if op.due ≤ s.time.toNat then s else s.advanceTo (s.cycOf op.due)
    let u := if op.slot.isSome then t.lateTo (max t.time.toNat op.due + 1) false false else t
    u.mxDone op

/-- The oldest commit that is outstanding: the least commit cycle, the first accepted among equals. -/
def oldestVx (l : List VxOp) : Option VxOp :=
  l.foldl (fun b o => match b with
    | none => some o
    | some x => if o.due < x.due then some o else some x) none

/-- VX_COMMIT (R214): the block reaches the commit cycle of the instruction that commits next. -/
def State.vxCommitNow (s : State) : State :=
  match oldestVx s.tensor.vx with
  | none => s
  | some op =>
    let t := if op.due ≤ s.time.toNat then s else s.advanceTo (s.cycOf op.due)
    let u := if op.slot.isSome then t.lateTo (max t.time.toNat op.due + 1) false false else t
    u.vxDone op

/-! ## WB (R69, R280, R281) -/

/-- The station of a scheduled channel is occupied. -/
def State.wbBusy (s : State) (c : Nat) : Bool :=
  s.wb.busy.any (fun p => decide (p.1 = c) && decide (s.time.toNat < p.2)) || s.inspecting 5
def State.wbOccupy (s : State) (c n : Nat) : State :=
  { s with wb := { s.wb with busy := s.wb.busy.filter (fun p => decide (p.1 ≠ c)) ++ [(c, s.time.toNat + n)] } }

def opCh (x : Opnd) : Nat := fld x 3 0
def stageBad (x : Opnd) : Bool := decide (fld x 31 4 ≠ 0) || decide (fld x 37 32 ≠ 0) || decide (fld x 95 61 ≠ 0)

/-- A transfer that ended and whose responses are still awaited leaves the active set: its status is recorded first (R275). -/
def State.endBefore (s : State) (c : Nat) : State :=
  match (s.chan c).active with
  | some d => match d.ended with
    | some e => s.complete c d e (d.len - d.confirmed) ⟨[], []⟩
    | none => s
  | none => s

/-! ## RL (R70, R307, R308) -/

def sendBad (x : Opnd) : Bool :=
  decide (fld x 7 3 ≠ 0) || decide (fld x 31 18 ≠ 0) || decide (fld x 63 61 ≠ 0) || decide (fld x 95 93 ≠ 0) ||
    decide (fld x 39 32 ≠ 0) || decide (fld x 71 64 ≠ 0)

/-- The lane's frame slot is occupied from t to t + 9. -/
def State.rlBusy (s : State) (l : Nat) : Bool :=
  s.relay.tx.any (fun t => decide (t.lane = l) && decide (s.time.toNat < t.at_ + 10)) || s.inspecting 4

/-! ## YS (R71, R72) -/

/-- What a YS slot needs: bits reserved, the offsets read and written. -/
def wordsBad (x : Opnd) : Bool := decide (fld x 95 64 ≠ 0) || decide (fld x 2 0 ≠ 0) || decide (fld x 34 32 ≠ 0)
/-- FILL, EMPTY and EXPECT; an offset of EXPECT whose bits [2:0] are not zero counts as reserved (DESIGN CHOICE, log 51: R74 states no
alignment). -/
def addrBad (x : Opnd) : Bool := decide (fld x 95 32 ≠ 0) || decide (fld x 2 0 ≠ 0)
def ctrBad (x : Opnd) : Bool := decide (fld x 95 64 ≠ 0) || decide (fld x 31 12 ≠ 0)

/-- TAKE (1), PEEK (2) and PUT (3). -/
def State.ysPair (s : State) (a : SlotAt) (x : Opnd) (op : Nat) : State :=
  s.slot a 5 (fun _ => false) (fun t =>
    let src := fld x 31 0
    let dst := fld x 63 32
    if wordsBad x then t.slotLost a 5 (some 1)
    else if !(t.owned ttReads src 8 && t.owned ttWrites dst 8) then t.slotLost a 5 none
    else t.slotTakes a 5 (fun u => u.wordJob a 5 (.pair op src dst) (if op = 3 then 1 else 0)))

/-- FILL and EMPTY. -/
def State.ysTag (s : State) (a : SlotAt) (x : Opnd) (b : Bool) : State :=
  s.slot a 5 (fun _ => false) (fun t =>
    let w := fld x 31 0
    if addrBad x then t.slotLost a 5 (some 1)
    else if !t.owned ttWrites w 8 then t.slotLost a 5 none
    else t.slotTakes a 5 (fun u => u.wordJob a 5 (.tag w b) 0))

/-- INC and DEC on counter CTR. -/
def State.ysCtr (s : State) (a : SlotAt) (x : Opnd) (inc : Bool) : State :=
  s.slot a 5 (fun _ => false) (fun t =>
    if ctrBad x then t.slotLost a 5 (some 1)
    else t.slotTakes a 5 (fun u => u.wordJob a 5 (.ctr inc (fld x 11 0) (fld x 63 32)) 0))

/-! ## ML, GD, END -/

end Sys2Proof.Machine
end

