-- ==== Sys2Proof/Machine/Image.lean ====
section
/-! DEFINITION. The timetable image as it stands in the Yard: its header, its slot words with the cycles they issue at, and the
commands they spell. Sections: R60 to R67, R74, R411, R445. -/

namespace Sys2Proof.Machine

/-- A number in the Yard as it is read, an uncorrectable word being zero (R236). -/
def State.peek (s : State) (o n : Nat) : Nat :=
  ((s.badIn o n).foldl (fun m w => Mem.clear m w 8) s.yard.mem).num o n

/-- The header of an image (R60). -/
structure Header where
  nslot    : List Nat
  leglen   : Nat
  dram     : Nat
  energy   : Nat
  nmap     : Nat
  mapbase  : Nat
  id       : Nat
  features : Nat
  resv     : Nat
deriving DecidableEq, Repr

def State.header (s : State) (off : Nat) : Header :=
  let f := fun (i n : Nat) => s.peek (off + i) n
  ⟨[f 0 4, f 4 4, f 8 4, f 12 4], f 0x10 8, f 0x18 8, f 0x20 4, f 0x24 4, f 0x28 8, f 0x30 4, f 0x34 4, f 0x38 8⟩

/-- Bytes of a lane's slot words, padding included (R61). -/
def laneBytes (n : Nat) : Nat := cdiv n 4 * 64
/-- Where a lane's slot words begin. -/
def laneBase (off : Nat) (nslot : List Nat) (i : Nat) : Nat := off + 0x40 + ((nslot.take i).map laneBytes).foldl (· + ·) 0
/-- Bytes of an image. -/
def imageBytes (nslot : List Nat) : Nat := 0x40 + (nslot.map laneBytes).foldl (· + ·) 0

/-- Fields of a slot word (R62). -/
def swDelta (w : BitVec 128) : Nat := fld w 127 108
def swStation (w : BitVec 128) : Nat := fld w 107 104
def swOp (w : BitVec 128) : Nat := fld w 103 96
def swOpnd (w : BitVec 128) : Opnd := BitVec.ofNat 96 (fld w 95 0)

/-- The command of a slot word; none for a reserved station or an undefined OP (R67). -/
def slotCmd (w : BitVec 128) : Option (SlotAt → Opnd → Instr) :=
  match swStation w, swOp w with
  | 0, 1 => some .mxIssue
  | 1, 1 => some .tfIssue
  | 2, 1 => some .vxIssue
  | 3, 1 => some .wbStage
  | 3, 2 => some .wbFire
  | 4, 1 => some .rlSend
  | 5, 1 => some .ysTake
  | 5, 2 => some .ysPeek
  | 5, 3 => some .ysPut
  | 5, 4 => some .ysFill
  | 5, 5 => some .ysEmpty
  | 5, 6 => some .ysInc
  | 5, 7 => some .ysDec
  | 6, 1 => some .mlPublish
  | 7, 0 => some .gdNop
  | 7, 1 => some .gdExpect
  | 7, 2 => some .gdInspect
  | 15, 0 => some .endLane
  | _, _ => none

/-- A slot of an image: its number in image order (R459), its place and cycle, its word. -/
structure ImgSlot where
  num   : Nat
  lane  : Nat
  idx   : Nat
  cycle : Nat
  word  : BitVec 128
deriving DecidableEq, Repr

/-- The slots of a lane, of `n` from index i on; `c` is the cycle of the one before (R63). -/
def laneSlots (s : State) (base num lane : Nat) : Nat → Nat → Nat → List ImgSlot
  | 0, _, _ => []
  | n + 1, i, c =>
    let w : BitVec 128 := BitVec.ofNat 128 (s.peek (base + 16 * i) 16)
    let c' := c + swDelta w
    ⟨num + i, lane, i, c', w⟩ :: laneSlots s base num lane n (i + 1) c'

/-- The slots of an image, in image order. -/
def State.imageSlots (s : State) (off : Nat) (nslot : List Nat) : List ImgSlot :=
  (List.range 4).flatMap (fun i =>
    laneSlots s (laneBase off nslot i) ((nslot.take i).foldl (· + ·) 0) i (nslot.getD i 0) 0 64)

/-- UNITS of the INSPECT windows of an image (R74). -/
def State.imageUnits (s : State) (img : Image) : List Nat :=
  (s.imageSlots img.off img.nslot).filterMap (fun x =>
    if swStation x.word = 7 ∧ swOp x.word = 2 ∧ fld x.word 26 0 ≠ 0 then some (fld x.word 37 32) else none)

/-- The bit of UNITS that covers a unit (R445); none for a Yard group. -/
def unitsBit (u : UnitId) : Option Nat :=
  match fld u 15 8 with
  | 1 => some 0
  | 4 => some 3
  | 5 => some 1
  | 6 => some 2
  | 7 => some 5
  | 8 => some 4
  | _ => none

/-- An image has an INSPECT window for a unit (R411). -/
def State.imageInspects (s : State) (img : Image) (u : UnitId) : Bool :=
  match unitsBit u with
  | some b => (s.imageUnits img).any (fun m => decide (m / 2 ^ b % 2 = 1))
  | none => false

/-- The settings that the checks of R77 read, with the bits they read (R79). -/
def readBits : List (Nat × Word) :=
  [(HN_PERIOD, maskOf 63 0), (HN_MARGIN, maskOf 63 0), (HN_CTRL, maskOf 1 1 ||| maskOf 11 10), (MX_MODE, maskOf 4 3),
   (MX_SUMMODE, maskOf 63 0),
   (PW_CAP, maskOf 63 0), (PW_CLKCTL, maskOf 63 0)] ++
  (List.range 8).map (fun p => (TF_CONV p, maskOf 63 0)) ++
  (List.range 16).flatMap (fun k =>
    [HN_MAIL_DEADLINE k, HN_MAIL_BUF k, HN_MAIL_SUB k, HN_MAIL_TAGW k].map (fun o => (o, maskOf 63 0))) ++
  (List.range 256).map (fun g => (YD_OWNER g, maskOf 63 0))

def State.settingsRead (s : State) : List (Nat × Word) := readBits.map (fun p => (p.1, s.rd p.1 &&& p.2))

/-- The admission after a harness has come into force: void where a setting it was admitted against is another (R79). -/
def State.voided (s : State) (a : Admission) : Admission := { a with void := a.void || decide (s.settingsRead ≠ a.setting) }

end Sys2Proof.Machine
end

