-- ==== Sys2Proof/Machine/Horn.lean ====
section
/-! DEFINITION. The horn and the leg: edges and local legs, what happens at cycle 0 (the harness, the Ostler's substitutions, the
timetable's state), at the end of the changeover, and at the margin.
Sections: R27 to R31, R51 to R59, R86, R91 to R93, R97, R105, R112, R136, R139, R251, R282, R303, R309, R313, R411, R415 to R418,
R421, R429, R430, R439, R448, R457. -/

namespace Sys2Proof.Machine

/-! ## Opening a leg (R51 to R57, R457) -/

/-- The lanes that have not issued END, as a mask. -/
def State.lateLanes (s : State) : Nat := bitsOf 4 (fun i => !(s.lane i).ended)

/-- The energy of the leg that ends awaits its PW_ENERGY (R429, R430); what came before the first leg belongs to none. -/
def State.energyLeg (s : State) : State :=
  let e := match s.seq.image with | some im => if s.tt = 1 ∨ s.tt = 2 then im.energy else 0 | none => 0
  let l := if s.legOpen then [(s.leg.toNat, s.power.uj, e)] else []
  { s with power := { s.power with uj := 0, ended := s.power.ended ++ l } }

/-- A leg is opened in this ACLK: it is cycle 0, and LEG_START is due. -/
def State.openLeg (s : State) : State :=
  ({ s.energyLeg with cycle := 0, legOpen := true, opening := true } : State).later 0 .legStart

/-- LATE for each enabled slot whose deadline a cut leg does not reach (R54). -/
def State.cutMail (s : State) : State :=
  (List.range 16).foldl (fun t k =>
    if s.mailOn && s.mailEn k && decide (s.cycle ≤ s.mailD k) &&
        !s.mail.draws.any (fun d => decide (d.k = k) && decide (d.leg = s.leg.toNat))
    then t.guard 2 (k + 16) 0 else t) s

/-- Draws that the cut stops write their records now. -/
def State.cutRecords (s : State) : State :=
  s.mail.draws.foldl (fun t d =>
    let k : Instr := .mailDrawRecord (BitVec.ofNat 4 d.k)
    (t.claim k).later 0 k) s.cutDraws

/-- The leg is cut at its present cycle (R54, R309). -/
def State.cutLeg (s : State) : State :=
  let s1 := s.cutMail
  let s2 := if s1.cycle < s1.P - s1.M ∧ s1.lateLanes ≠ 0 then s1.guard 3 s1.lateLanes 0 else s1
  s2.cutRecords.cutLandings

/-- The block reaches the cycle in which an edge is recognised; where the edge cuts the leg that ACLK is cycle 0 of the next one, and
what the leg had due in it does not take place (R51, R54). -/
def State.edgeAt (s : State) (c : Nat) : State :=
  if s.legOpen && decide (s.P / 2 ≤ c) && decide (c < s.P) then (s.advanceTo (c - 1)).atCycle c else s.advanceTo c

/-- A recognised edge at cycle c (R54, R55, R457). -/
def State.hornEdge (s0 : State) (c : Nat) : State :=
  let s := s0.edgeAt c
  if !s.legOpen then s.openLeg
  else if s.cycle < s.P / 2 then
    ((s.setB HN_HORN_STATUS 3 true).count HN_HORN_EARLYCNT 1).guard 6 1 0
  else
    let s1 := if s.cycle < s.P then s.cutLeg else s
    let s2 := if s1.b HN_HORN_STATUS 1 then ((s1.setB HN_HORN_STATUS 1 false).setB HN_HORN_STATUS 4 true).guard 6 2 0 else s1
    s2.openLeg

/-- The cycle at which a local leg opens (R54, R55, R457). -/
def State.localAt (s : State) : Nat :=
  if s.legOpen && (s.b HN_CTRL 0 || s.b HN_HORN_STATUS 1) then s.P else 3 * s.P / 2

/-- The block reaches the ACLK in which a local leg opens; what the leg before had due in it is left to cycle 0 of the new one. -/
def State.atLocal (s : State) : State := if s.cycle < s.localAt then (s.advanceTo (s.localAt - 1)).atCycle s.localAt else s

/-- No edge has come (R54, R55). -/
def State.localHorn (s0 : State) : State :=
  let s := s0.atLocal
  if s.b HN_CTRL 0 then s.openLeg
  else
    let s1 := if s.b HN_HORN_STATUS 1 then s
      else (((s.setB HN_HORN_STATUS 1 true).setB HN_HORN_STATUS 2 true).guard 6 0 0)
    (s1.count HN_HORN_LOCALCNT 1).openLeg

/-! ## The harness at the changeover (R27, R415 to R418, R439) -/

/-- A register takes a harness value in the bits a harness sets; the value stays against a write of the same ACLK (R180). -/
def State.setHarness (s : State) (o : Nat) (v : Word) : State :=
  let m := harnessMask o
  (s.wr o ((s.rd o &&& ~~~m) ||| (v &&& m))).wins o m

/-- Every harness register takes its Reset value (R439), and STATE is IDLE (R440). -/
def State.harnessReset (s : State) : State :=
  let t := (s.regs.map (·.1)).foldl (fun t o => t.setHarness o (resetOf o)) s
  (t.setF HN_TT_STATE 2 0 0).setF HN_TT_STATE 11 8 0

/-- What a change of MX_SUMMODE does (R105): an entry that becomes an error store is zeroed; one that ceases to be one is an FP32
accumulator, in use if its pair is. -/
def State.pairsChange (s : State) (old : Word) : State :=
  (List.range 8).foldl (fun t k =>
    let was := decide (fld old (4 * k + 1) (4 * k) = 1)
    let now := decide (t.sumMode (2 * k) = 1)
    if now && !was then t.accReplace (2 * k + 1) []
    else if was && !now then (t.setB MX_ACCINUSE (2 * k + 1) (t.b MX_ACCINUSE (2 * k))).setB MX_ACCTYPE (2 * k + 1) false
    else t) s

/-- A pending harness is applied (R27): the state, and whether one was. Its OK follows after cycle 63 (R417). -/
def State.applyHarness (s : State) : State × Bool :=
  match s.coach.commit with
  | some ⟨q, soft, some l, none⟩ =>
    let old := s.rd MX_SUMMODE
    let s1 := if soft then s.harnessReset else l.foldl (fun t p => t.setHarness p.1 p.2) s
    let s2 := (s1.pairsChange old).wr CM_HARN_LEG (BitVec.ofNat 64 s1.leg.toNat)
    let s3 : State := { s2 with coach := { s2.coach with
      commit := some ⟨q, soft, none, some s2.leg⟩, staged := [], adm := s2.coach.adm.map s2.voided } }
    (s3.later 64 .changeoverEnd, true)
  | _ => (s, false)

/-- The admission that a harness in force would start (R79). -/
def State.starts (s : State) : Option Admission :=
  match s.coach.adm with
  | some a => if !a.void && s.b HN_CTRL 2 && decide (s.f HN_TT_BASE 28 6 * 64 = a.img.off) then some a else none
  | none => none

/-! ## The timetable's state (R79, R91 to R93, R421) -/

def State.setTT (s : State) (st left : Nat) : State := (s.setF HN_TT_STATE 2 0 st).setF HN_TT_STATE 11 8 left

/-- The final receipt of an outstanding STOP. -/
def State.stopDone (s : State) (st : Nat) : State :=
  match s.coach.stop with
  | some q => ({ s with coach := { s.coach with stop := none } } : State).answerTo 0x0032 q 0 true (BitVec.ofNat 64 st)
      (BitVec.ofNat 64 s.leg.toNat) 0
  | none => s

/-- A newly admitted image starts as RUNNING; it ends any run-out, and a halt reported in the leg before (R93). -/
def State.startImage (s : State) (a : Admission) : State :=
  let s1 := ((s.setTT 1 0).setF HN_TT_STATE 63 32 a.img.id).setB HN_TT_STATE 16 false
  ({ s1 with
    seq := { s1.seq with image := some a.img, halt := false },
    coach := { s1.coach with adm := none } } : State).stopDone 1

/-- The run-out of one leg more, or its end with STATE `fin` (R91, R92). -/
def State.runOn (s : State) (fin : Nat) : State :=
  let left := s.f HN_TT_STATE 11 8
  if s.leg.toNat = s.seq.runFirst then s
  else if left = 0 then (s.setTT fin 0).stopDone fin
  else s.setF HN_TT_STATE 11 8 (left - 1)

/-- STATE at a changeover; `start`: the image that the harness applied here starts. -/
def State.ttChange (s : State) (start : Option Admission) : State :=
  match start with
  | some a => s.startImage a
  | none =>
    let s1 : State := { s with seq := { s.seq with halt := false } }
    if s.seq.halt ∧ s.tt = 1 then
      { (s1.setTT 4 (s1.f HN_CTRL 15 12)) with seq := { s1.seq with runFirst := s1.leg.toNat } }
    else if s.seq.halt ∧ s.tt = 2 then (s1.setF HN_TT_STATE 2 0 4).runOn 3
    else if s.tt = 2 then s1.runOn 0
    else if s.tt = 4 then s1.runOn 3
    else s1

/-- The sequencer restarts from the first slot of every lane, or is idle (R59, R92). -/
def State.loadLanes (s : State) : State :=
  match s.seq.image with
  | some im =>
    if s.tt = 1 ∨ s.tt = 2 then
      { s with seq := { s.seq with lanes := Vector.ofFn (fun (i : Fin 4) =>
          (⟨laneBase im.off im.nslot i.val, im.nslot.getD i.val 0, 0, 64, false, []⟩ : Lane)) } }
    else { s with seq := { s.seq with lanes := Vector.replicate 4 Lane.idle } }
  | none => { s with seq := { s.seq with lanes := Vector.replicate 4 Lane.idle } }

/-! ## The tensor unit at a changeover (R30, R112, R136) -/

/-- A matrix instruction of the core as a command. -/
def mxInstr (w : Insn) : Instr × Insn :=
  (match opcode w with
   | 0x28 => .tmma w
   | 0x29 => .tmmv w
   | _ => .tdrain w, w)

/-- The core's vector instruction in flight commits 64 ACLK later (R136). -/
def State.delayVx (s : State) (op : VxOp) : State :=
  let s1 := (s.undue .vxCommit [op.due]).count VX_CNT_ABANDON 1
  ({ s1 with tensor := { s1.tensor with vx := s1.tensor.vx.map (fun o => if o = op then { o with due := op.due + 64 } else o) } } :
    State).later (op.due + 64 - s1.time.toNat) .vxCommit

/-- What is done as at an abandonment point that is this ACLK itself (R30, R136). -/
def State.asOfNow {β : Type} (s : State) (f : State → β × State) : β × State :=
  let (b, t) := f { s with time := s.time - 1 }
  (b, { t with time := s.time })

/-- The core's matrix instructions that are not complete at cycle 0 wait to be accepted again from cycle 64 on, before what waits
already (R136); the core's pc goes back to the oldest. Its vector instructions commit 64 ACLK later. -/
def State.replay (s : State) : State :=
  let (l, t) := s.asOfNow State.giveUpMx
  let done := t.coreVx.filter (fun o => decide (o.due < s.time.toNat))
  let u := done.foldl (fun (x : State) o => (x.dropVx o).vxApply o) t
  let v := u.coreVx.foldl State.delayVx u
  match l with
  | [] => v
  | (_, pc, _) :: _ =>
    { v with
      core := { v.core with pc := pc, younger := l.map (fun x => mxInstr x.2.2) ++ v.core.younger },
      tensor := { v.tensor with mxBusy := max v.tensor.mxBusy (s.time.toNat + 64) } }

/-- Tensor instructions of the core that are not complete at cycle 0: abandoned with TILE_BOUND at the oldest where the sequencer
takes the tensor unit (R30), unless an interrupt is eligible (R353); replayed otherwise (R136). -/
def State.tensorChange (s : State) (was : Bool) : State :=
  if !s.inFlight then s
  else if s.tmode ∧ !was then
    match s.asOfNow State.giveUp with
    | ([], t) => t
    | ((_, pc, w) :: _, t) =>
      let u : State := { t with core := { t.core with pc := pc } }
      match u.chosenIrq with
      | some c => u.takeIrq c
      | none =>
        if 0x28 ≤ opcode w then u.syncFault .tileBound 0 pc w
        else
          match u.vxFault w ⟨none, 0, 0⟩ .tileBound 0 0 with
          | .fault c fa x => x.syncFault c fa pc w
          | _ => u
  else s.replay

/-! ## The Ostler at a changeover (R139, R251, R313, R448) -/

/-- Spare carriage p serves logical carriage l (R139). -/
def State.substCarriage (s : State) (l p : Nat) : State :=
  let s1 := (s.setF (MX_CARMAP (l / 8)) (8 * (l % 8) + 7) (8 * (l % 8)) p).setB MX_SUBST l true
  { s1 with tensor := { s1.tensor with accs := s1.tensor.accs.filter (fun c => decide (c.1 % 4096 / 64 ≠ l)) } }

/-- Spare group k serves logical group g (R251): what was rescued stays, less the uncorrectable words; without rescue all is zero
and empty. -/
def State.substGroup (s : State) (g k : Nat) (lost : Bool) : State :=
  let s0 := (List.range 4).foldl (fun t j =>
    if t.b YD_GMAP (16 * j + 15) ∧ t.f YD_GMAP (16 * j + 7) (16 * j) = g then (t.setB YD_GMAP (16 * j + 15) false).setF YD_GMAP (16 * j + 7) (16 * j) 0
    else t) s
  let s1 := ((s0.setF YD_GMAP (16 * k + 7) (16 * k) g).setB YD_GMAP (16 * k + 15) true).setB (YD_SUBST (g / 64)) (g % 64) true
  let inG := fun (w : Nat) => decide (groupOf w = g)
  let bad := s1.yard.bad.filter inG
  let y : Yard := { s1.yard with weak := s1.yard.weak.filter (fun w => !inG w) }
  if lost then
    ({ s1 with yard := { y with
      mem := y.mem.filter (fun c => !inG c.1), full := y.full.filter (fun w => !inG w), bad := y.bad.filter (fun w => !inG w) } } :
      State).setB YD_GMAP (16 * k + 14) true
  else { s1 with yard := { y with
      mem := bad.foldl (fun m w => Mem.clear m w 8) y.mem, full := y.full.filter (fun w => !bad.contains w),
      bad := y.bad.filter (fun w => !inG w) } }

/-- Spare port p serves logical lane l, and the port that leaves is the spare (R313); where that port is not locked, UP of the lane falls
and DOWN is set (R312). -/
def State.substLane (s : State) (l old p : Nat) : State :=
  let t := (s.setF RL_LANEMAP (4 * l + 3) (4 * l) p).setF RL_LANEMAP 35 32 old
  let u : State := { t with ostler := { t.ostler with moved := l :: t.ostler.moved } }
  if bit s.pins.lock old && !bit s.pins.lock p then u.setB (RL_LANE_STATUS l) 62 true else u

/-- A dead active unit at a changeover: replaced, or still waiting for its rescue. -/
def State.replaceUnit (s : State) (u : UnitId) : State :=
  let drop := fun (t : State) => ({ t with ostler := { t.ostler with todo := t.ostler.todo.filter (fun x => decide (x ≠ u)) } } : State)
  let cls := fld u 15 8
  let i := fld u 7 0
  let g := s.groupOfUnit u
  let isGroup := decide (cls = 2) || decide (cls = 3)
  let mute := isGroup && inSet g s.ostler.mute
  if isGroup && !mute && !inSet g s.ostler.rescued then s
  else if !s.unitActive u then drop s
  else
    match s.chooseSpare u, unitDomain u with
    | some sp, some d =>
      let p := fld sp 7 0
      let s1 := if cls = 1 then
          (match findBelow 64 (fun l => decide (s.carriage l = i)) with | some l => s.substCarriage l p | none => s)
        else if isGroup then
          (let t := s.substGroup g p mute
           { t with ostler := { t.ostler with rescued := setIn g false t.ostler.rescued, mute := setIn g false t.ostler.mute } })
        else (match s.laneOf i with | some l => s.substLane l i p | none => s)
      let s2 := (drop (s1.setUnit HL_FENCE d true)).ostlerEvent 2 u 0 sp.toNat
      if mute then s2.ostlerEvent 8 u 0 0 else s2
    | _, _ => (drop s).noSpare u

/-- Every dead active unit; whether a carriage was substituted. -/
def State.replaceAll (s : State) : State × Bool :=
  let t := s.ostler.todo.foldl State.replaceUnit s
  (t, decide ((List.range 8).map (fun q => t.rd (MX_CARMAP q)) ≠ (List.range 8).map (fun q => s.rd (MX_CARMAP q))))

/-! ## Power and tests at a changeover (R411, R429, R430) -/

/-- M of R430. -/
def State.marginM (s : State) : Nat :=
  if !s.b PW_STATUS 1 then 255
  else min 255 (s.f PW_MARGIN 15 8 + cdiv (256 * s.power.hist.foldl max 0 * 14000) (s.f PW_CAP 10 0 * s.P))

/-- A deferred test at a changeover (R411, R445): it waits no more where no timetable is admitted, finds no window in a timetable
that starts here, or has waited its legs. -/
def State.testChange (s : State) (started : Bool) : State :=
  match s.coach.test with
  | some j =>
    let done := fun (st : Byte) => ({ s with coach := { s.coach with test := none } } : State).answerTo 0x0040 j.seq st true 0 0 0
    if !j.waits then s
    else if s.noTimetable then { s with coach := { s.coach with test := some { j with waits := false } } }
    else if started ∧ !(match s.seq.image with | some im => s.imageInspects im j.unit | none => false) then done 3
    else match j.legs with
      | none => s
      | some 0 => done 0x0A
      | some 1 => done 0x0A
      | some (n + 1) => { s with coach := { s.coach with test := some { j with legs := some n } } }
  | none => s

/-! ## Cycle 0 (R58) -/

/-- What is kept for one leg only: the Guard's reports, substitutes, windows, slots' cycles (R58, R86, R97). -/
def State.freshLeg (s : State) : State :=
  ({ s with
    opening := false, leg := s.leg + 1,
    seq := { s.seq with windows := [], occupied := [], seen := [], substFrom := none, allSubst := s.seq.thermal, thermal := false },
    ostler := { s.ostler with struck := [], moved := [] } } : State).setB HN_NANINFO 63 false

/-- The tag word of every enabled mail slot is set empty. -/
def State.emptyMail (s : State) : State :=
  (List.range 16).foldl (fun t k => if t.mailEn k then t.retag (t.mailTag k) false idHorn opEmpty else t) s

/-- UNS credits return once no device is above tolerance (R86). -/
def State.dragChange (s : State) : State := if s.aboveTol.isEmpty then s.setB RL_DRAG 63 false else s.dragCheck

/-- Cycle 0 of a leg. -/
def State.legStart (s : State) : State :=
  let was := s.tmode
  let (s1, applied) := s.freshLeg.applyHarness
  let start := if applied then s1.starts else none
  let s2 := (s1.emptyMail.ttChange start).dragChange
  let (s3, car) := s2.replaceAll
  let s4 := if applied || car then s3.reseed.tensorChange was else s3
  (s4.loadLanes.testChange start.isSome).setF PW_MARGIN 7 0 s4.marginM

/-- The applied commit is answered and PENDING cleared (R417, R439). -/
def State.changeoverEnd (s0 : State) : State :=
  match s0.coach.commit with
  | some ⟨q, soft, none, some l⟩ =>
    let s := s0.advanceTo 64
    ({ s with coach := { s.coach with commit := none } } : State).answerTo (if soft then 0x0005 else 0x0021) q 0 true 0
      (if soft then 0 else BitVec.ofNat 64 l.toNat) 0
  | _ => s0

/-! ## The margin (R59, R86, R282) -/

/-- A scheduled transfer that is incomplete at P − M; THERMAL where its fabric side is DRAM and a device is above DRAG_TOL. -/
def State.lateTransfer (s : State) (c : Nat) : State :=
  let (s1, dram) := s.endLate c
  let l := s1.aboveTol
  if dram ∧ !l.isEmpty then
    ({ s1 with seq := { s1.seq with thermal := true } } : State).guard 7 (bitsOf 12 (fun d => l.contains d)) 0
  else s1

/-- At P − M unissued slots are discarded (R59). -/
def State.legMargin (s0 : State) : State :=
  let s := s0.advanceTo (s0.P - s0.M)
  let s1 := if s.lateLanes ≠ 0 then s.guard 3 s.lateLanes 0 else s
  let s2 : State := { s1 with seq := { s1.seq with lanes := s1.seq.lanes.map (fun l => { l with ended := true }) } }
  (List.range 16).foldl State.lateTransfer s2

/-! ## The ACLK in which a leg opens -/

/-- A command of the ACLK in which a leg opens sees the leg begun: its cycle 0 comes before any other effect (R58). -/
def State.inLeg (s : State) : State := if s.opening then (s.claim .legStart).legStart else s

/-- A command of the running block, after the cycle 0 that is due (R27, R58). -/
def State.run (s : State) (f : State → State) : State := s.up (fun t => f t.inLeg)

/-- An instruction of the core, after the cycle 0 that is due (R27, R58). -/
def State.byCore (s : State) (i : Instr) (w : Insn) (body : State → Ran) : State := s.inLeg.coreStep i w body

/-! ## The commands -/

/-- HORN_EDGE (R54): HORN_IN is ignored under LOCAL_ONLY. -/
def execHornEdge (c : BitVec 27) (s : State) : Host.Outcome State Fault Refusal :=
  .next (s.run (fun t => if t.b HN_CTRL 0 then t else t.hornEdge c.toNat))

/-- LOCAL_HORN (R55). -/
def execLocalHorn (s : State) : Host.Outcome State Fault Refusal :=
  .next (s.up (fun t => if t.opening then t.inLeg else t.localHorn))

/-- LEG_START (R58): due in cycle 0 of a leg that has been opened. -/
def execLegStart (s : State) : Host.Outcome State Fault Refusal :=
  .next (s.run (fun t => t))

/-- CHANGEOVER_END (R417). -/
def execChangeoverEnd (s : State) : Host.Outcome State Fault Refusal :=
  .next (s.run (fun t => (t.claim .changeoverEnd).changeoverEnd))

/-- LEG_MARGIN (R59). -/
def execLegMargin (s : State) : Host.Outcome State Fault Refusal :=
  .next (s.run (fun t => if t.legOpen then t.legMargin else t))

end Sys2Proof.Machine
end

