-- ==== Sys2Proof/Machine/Booking.lean ====
section
/-! DEFINITION. Booking packets: how the Coachman takes one, the order in which it answers, and the commands that concern the block
as a whole: identification, features, alerts, resets, firmware, SYNC_DUMP, STOP and SELF_TEST.
Sections: R254, R397 to R413, R421, R438, R439, R445, R446. -/

namespace Sys2Proof.Machine

/-! ## Packets (R398, R407) -/

def pOp (p : Packet) : Nat := fld p 15 0
def pSeq (p : Packet) : BitVec 16 := BitVec.ofNat 16 (fld p 31 16)
def pLen (p : Packet) : Nat := fld p 63 48
/-- BARRIER. -/
def pBarrier (p : Packet) : Bool := bit p 32
/-- n bytes of a packet from offset i on. -/
def pNum (p : Packet) (i n : Nat) : Nat := bytesAt p i n

/-- The lengths R407 gives an opcode; none for an unassigned one. -/
def opLens (op : Nat) : Option (List Nat) :=
  match op with
  | 0x01 => some [0]
  | 0x02 => some [16]
  | 0x03 => some [16]
  | 0x04 => some [0]
  | 0x05 => some [8]
  | 0x10 => some [16]
  | 0x20 => some [12, 24, 36, 48]
  | 0x21 => some [0]
  | 0x22 => some [0]
  | 0x23 => some [8]
  | 0x30 => some [16]
  | 0x31 => some [0]
  | 0x32 => some [0]
  | 0x40 => some [8]
  | 0x41 => some [8]
  | 0x50 => some [16]
  | _ => none

/-- A fault of a packet: the offset of its first byte and its reason (R400). -/
abbrev PFault := Nat × Nat

/-- The non-zero bytes of a range that must be zero. -/
def zeroed (p : Packet) (lo hi : Nat) : List PFault :=
  ((List.range (hi - lo)).filter (fun i => decide (pNum p (lo + i) 1 ≠ 0))).map (fun i => (lo + i, 0))

/-- A field check that fails unless `ok`. -/
def fieldCheck (ok : Bool) (off : Nat) : List PFault := if ok then [] else [(off, 1)]

/-- The faults of the header (R398): reserved flags, LENGTH, reserved bytes, and the reserved bytes after the parameters. -/
def headFaults (p : Packet) (lens : List Nat) : List PFault :=
  (if fld p 39 33 ≠ 0 then [(4, 0)] else []) ++ zeroed p 5 6 ++ fieldCheck (lens.contains (pLen p)) 6 ++ zeroed p 8 16 ++
    (if lens.contains (pLen p) then zeroed p (16 + pLen p) 64 else [])

/-- The fault of the lowest offset. -/
def firstFault : List PFault → Option PFault
  | [] => none
  | a :: t => some (t.foldl (fun b x => if x.1 < b.1 then x else b) a)

/-! ## Taking a packet (R394, R397, R398) -/

/-- The Coachman may take the next packet. RESET type 1, which ends once the core is reset, is not yet answered while the core
resets for it. -/
def State.canTake (s : State) (p : Packet) : Bool :=
  let n := s.gap CM_BOOK_TAIL CM_BOOK_HEAD
  s.b CM_CTRL 0 && !s.coach.noTake && decide (n ≠ 0) && decide (n ≤ 2 ^ s.coach.rings.2.1) && !s.b RL_DRAG 63 &&
    decide (s.gap CM_RCPT_TAIL CM_RCPT_HEAD + 4 ≤ 2 ^ s.coach.rings.2.2.2) && s.coach.receipts.isEmpty &&
    s.core.resetSeq.isNone && (!pBarrier p || decide (s.background = 0))

/-- A packet is taken. -/
def State.taken (s : State) : State :=
  ((s.setF CM_BOOK_HEAD 31 0 (s.f CM_BOOK_HEAD 31 0 + 1)).count CM_CNT_PACKETS 1).packetRead

/-- The receipt of a packet, final but for DEFERRED (R399, R400). -/
def State.reply (s : State) (p : Packet) (st : Byte) (detail d16 d24 : Word) : State :=
  s.answerTo (BitVec.ofNat 16 (pOp p)) (pSeq p) st (decide (st ≠ 1)) detail d16 d24

/-- OK with nothing to say. -/
def State.replyOk (s : State) (p : Packet) : State := s.reply p 0 0 0 0
/-- REJECTED_INCONSISTENT at an offset with a reason. -/
def State.reject (s : State) (p : Packet) (f : PFault) : State := s.reply p 2 (BitVec.ofNat 64 (f.1 + f.2 * 2 ^ 16)) 0 0

/-- CM_STATE.STATE: 0 BOOT, 1 HELD, 2 READY, 3 NEGOTIATED. -/
def State.cmState (s : State) : Nat := s.f CM_STATE 2 0

/-- What a state answers an opcode with (R402): none where it executes. -/
def stateAnswer (st op : Nat) : Option (Byte × Word) :=
  let no : Option (Byte × Word) := some (5, 0xFF)
  let bad : Option (Byte × Word) := some (2, 0x10000)
  if op = 1 then none
  else if op = 0x10 then (if st = 0 then none else bad)
  else if op = 2 ∨ op = 3 then (if st = 0 then no else if st = 2 then none else bad)
  else if st = 3 then none else no

/-- TT_ADMIT, TT_WITHDRAW and STOP need TIMETABLE (R407). -/
def needsTimetable (op : Nat) : Bool := op = 0x30 || op = 0x31 || op = 0x32

/-- The opcode of a conflicting command, or 0 for timetable state; `type`: RESET's TYPE (R408). -/
def State.conflict (s : State) (op type : Nat) : Option Nat :=
  let k := s.coach
  let group := decide (0x20 ≤ op ∧ op ≤ 0x22) || decide (op = 0x30) || decide (op = 0x31)
  let soft := decide (op = 5 ∧ type = 2)
  let commitOp := match k.commit with | some c => if c.soft then 5 else 0x21 | none => 0
  if group && k.admitting.isSome then some 0x30
  else if (group || soft) && k.commit.isSome then some commitOp
  else if (decide (op = 0x40) || decide (op = 0x41)) && k.test.isSome then some 0x40
  else if decide (op = 0x50) && k.dump.isSome then some 0x50
  else if decide (op = 0x30) && s.b HN_TT_STATE 16 then some 0
  else if soft && (s.tt = 1 || s.tt = 2 || s.tt = 4) then some 0
  else none

/-- A packet is answered with the first status that applies (R400); `fields`: the field checks of its opcode; `run`: its own
effect and statuses. -/
def State.answer (s : State) (p : Packet) (fields : List PFault) (run : State → State) : State :=
  let op := pOp p
  if s.cmState = 1 then s.reply p 8 0 0 0
  else match opLens op with
    | none => s.reply p 4 0 0 0
    | some lens =>
      match firstFault (headFaults p lens ++ fields) with
      | some f => s.reject p f
      | none =>
        match stateAnswer s.cmState op with
        | some (st, d) => s.reply p st d 0 0
        | none =>
          if needsTimetable op && !s.feature featTimetable then s.reply p 5 0 0 0
          else match s.conflict op (pNum p 16 8) with
            | some c => s.reply p 6 (BitVec.ofNat 64 c) 0 0
            | none => run s

/-- The Coachman takes a packet with opcode `op`; a packet with an unassigned opcode is answered as such. -/
def State.booking (s : State) (op : Nat) (p : Packet) (fields : List PFault) (run : State → State) : State :=
  s.run (fun t => if t.canTake p && (decide (pOp p = op) || (opLens (pOp p)).isNone) then t.taken.answer p fields run else t)

/-! ## IDENTIFY, features, CORE_ALERT, RESET (R404, R407, R409) -/

/-- IDENTIFY. -/
def execIdentify (p : Packet) (s : State) : Host.Outcome State Fault Refusal :=
  .next (s.booking 0x01 p [] (fun t => t.reply p 0 (t.readReg CM_STATE).1 (t.rd CM_IDENT) (t.rd CM_FWVER)))

/-- The supported word S: bits 0 to 10 (R403). -/
def supported : BitVec 128 := 0x7FF

/-- A feature word of a packet: bytes 16 to 31 (R404). -/
def pFeat (p : Packet) : BitVec 128 := BitVec.ofNat 128 (pNum p 16 16)

/-- Bits whose prerequisite is clear are cleared: MAIL, RELAY and INSPECTION need TIMETABLE (R403). -/
def prereq (w : BitVec 128) : BitVec 128 := if bit w 0 then w else w &&& ~~~(0x86 : BitVec 128)

def lowW (w : BitVec 128) : Word := BitVec.ofNat 64 w.toNat
def highW (w : BitVec 128) : Word := BitVec.ofNat 64 (w.toNat / 2 ^ 64)

/-- FEATURE_OFFER. -/
def execFeatureOffer (p : Packet) (s : State) : Host.Outcome State Fault Refusal :=
  .next (s.booking 0x02 p [] (fun t =>
    let r := pFeat p &&& supported
    ({ t with coach := { t.coach with offer := some (pFeat p) } } : State).reply p 0 0 (lowW r) (highW r)))

/-- The word that FEATURE_ACCEPT accepts. -/
def State.accepted (s : State) (a : BitVec 128) : BitVec 128 :=
  prereq (a &&& supported &&& (match s.coach.offer with | some o => o | none => supported))

/-- FEATURE_ACCEPT. -/
def execFeatureAccept (p : Packet) (s : State) : Host.Outcome State Fault Refusal :=
  .next (s.booking 0x03 p [] (fun t =>
    let r := t.accepted (pFeat p)
    (((t.wr (CM_FEAT 0) (lowW r)).wr (CM_FEAT 1) (highW r)).setF CM_STATE 2 0 3).reply p 0 0 (lowW r) (highW r)))

/-- CORE_ALERT. -/
def execCoreAlert (p : Packet) (s : State) : Host.Outcome State Fault Refusal :=
  .next (s.booking 0x04 p [] (fun t => (t.setB SC_IPEND 41 true).replyOk p))

/-- The check of RESET's TYPE. -/
def typeFaults (p : Packet) : List PFault := fieldCheck (decide (pNum p 16 8 = 1) || decide (pNum p 16 8 = 2)) 16

/-- RESET_CORE_ONLY (R438): RESET type 1; its OK follows once the reset is complete. -/
def execResetCoreOnly (p : Packet) (s : State) : Host.Outcome State Fault Refusal :=
  .next (if pOp p = 5 ∧ pNum p 16 8 = 2 then s
    else s.booking 0x05 p (typeFaults p) (fun t =>
      if t.core.run = .resetting then { t with core := { t.core with resetSeq := some (pSeq p) } }
      else t.startCoreReset (some (pSeq p))))

/-- RESET_HARNESS_SOFT (R439): RESET type 2 is a commit of the Reset values; its check follows. A core-only reset in progress absorbs it
(R435), and its OK follows that reset (DESIGN CHOICE, log 55). -/
def execResetHarnessSoft (p : Packet) (s : State) : Host.Outcome State Fault Refusal :=
  .next (if pOp p = 5 ∧ pNum p 16 8 = 1 then s
    else s.booking 0x05 p (typeFaults p) (fun t =>
      if t.core.run = .resetting then { t with core := { t.core with resetSeq := some (pSeq p) } }
      else { t with coach := { t.coach with commit := some ⟨pSeq p, true, none, none⟩ } }))

/-! ## FW_LOAD (R405, R406) -/

/-- The image as it is read: `none` where a read failed, or where fewer bytes came than LEN. -/
def imageRead (len : Nat) (image : Option (List Byte)) : Option (List Byte) :=
  match image with
  | some bs => if bs.length < len then none else some (bs.take len)
  | none => none

/-- The number at n bytes of an image from offset i on. -/
def imNum (bs : List Byte) (i n : Nat) : Nat := ofBytes ((bs.drop i).take n)

/-- A header fault of an image. -/
def imageBad (bs : List Byte) : Bool :=
  let body := imNum bs 0x10 4
  decide (bs.length < 0x80) || decide (imNum bs 0 4 ≠ 0x54414F43) || decide (imNum bs 4 2 ≠ 1) || decide (imNum bs 6 2 ≠ 0) ||
    decide (body % 64 ≠ 0) || decide (body < 64) || decide (1048576 < body) || decide (imNum bs 0x14 4 % 4 ≠ 0) ||
    decide (body ≤ imNum bs 0x14 4) || decide (imNum bs 0x18 8 ≠ 0) || decide (bs.length ≠ 0x80 + body)

/-- A refused image: HELD, with CM_STATE.IMGERR. -/
def State.heldBy (s : State) (p : Packet) (err : Nat) : State := ((s.setF CM_STATE 15 8 err).setF CM_STATE 2 0 1).reply p 8 0 0 0

/-- An image that has been read. Of a header fault no offset is named: DETAIL holds reason 1 and a free offset (log 7). -/
def State.loadImage (s : State) (p : Packet) (bs : List Byte) : State :=
  if imageBad bs then
    let (x, s1) := s.free
    s1.reject p (fld x 15 0, 1)
  else if !Config.sigValid bs then s.heldBy p 1
  else if imNum bs 8 8 < Config.versionFloor then s.heldBy p 2
  else
    let v : Word := BitVec.ofNat 64 (imNum bs 8 8)
    let s1 := (s.setF CM_STATE 2 0 2).wr CM_FWVER v
    ({ s1 with coach := { s1.coach with image := bs } } : State).reply p 0 0 v 0

/-- The checks of SRC and LEN that the packet alone decides; a LEN of zero is a header fault. -/
def State.fwFaults (s : State) (p : Packet) : List PFault :=
  let a := pNum p 16 8
  let n := pNum p 24 8
  fieldCheck (decide (a % 64 = 0) && s.hostOrDram a (max n 1)) 16

/-- FW_LOAD: `image` is what the reads of SRC to SRC + LEN − 1 return. -/
def execFwLoad (p : Packet) (image : Option (List Byte)) (s : State) : Host.Outcome State Fault Refusal :=
  .next (s.booking 0x10 p (s.fwFaults p) (fun t =>
    if pNum p 24 8 = 0 then t.loadImage p []
    else match imageRead (pNum p 24 8) image with
      | none => t.reply p 0x0A 0 0 0
      | some bs => t.loadImage p bs))

/-! ## SYNC_DUMP (R254, R412) -/

/-- Bytes of a dump. -/
def dumpLen : Nat := 0x25040

/-- The header of a dump at TSTART, with NVALID 0 until it is known. -/
def State.dumpHead (s : State) : List Byte :=
  toBytes 2 1 ++ toBytes 2 0 ++ toBytes 4 0 ++ toBytes 8 s.time.toNat ++ toBytes 8 (s.time.toNat + 4607) ++ toBytes 8 s.leg.toNat ++
    toBytes 4 0x40 ++ toBytes 4 0x20040 ++ toBytes 4 0x24040 ++ toBytes 4 dumpLen ++ toBytes 8 (s.rd YD_CTR_FLAGS).toNat ++ toBytes 8 0

def State.dumpFaults (s : State) (p : Packet) : List PFault :=
  let a := pNum p 16 8
  let n := pNum p 24 8
  fieldCheck (decide (a % 64 = 0) && s.hostOrDram a 1) 16 ++ fieldCheck (decide (dumpLen ≤ n)) 24

/-- SYNC_DUMP: the first entry is copied. -/
def execSyncDump (p : Packet) (s : State) : Host.Outcome State Fault Refusal :=
  .next (s.booking 0x50 p (s.dumpFaults p) (fun t =>
    ({ t with coach := { t.coach with dump := some (pSeq p, pNum p 16 8, t.dumpHead) } } : State).collect))

/-- Entries of a dump with VALID 1. -/
def dumpValid (bs : List Byte) : Nat :=
  ((List.range 4096).filter (fun i => decide (128 ≤ imNum bs (0x40 + 32 * i + 7) 1))).length

/-- The writes of a dump, one for each 64 bytes. -/
def dumpWrites (dst : Nat) (bs : List Byte) : List OutMsg :=
  (List.range (dumpLen / 64)).map (fun i => .fabWrite .uns (dst + 64 * i) ((bs.drop (64 * i)).take 64))

/-- The last write response of a SYNC_DUMP has come; `err`: the lowest offset whose write got an error response. -/
def State.dumpDone (s : State) (err : Option (BitVec 32)) : State :=
  match s.coach.dump with
  | none => s
  | some (q, dst, bs) =>
    if bs.length < dumpLen ∨ s.b RL_DRAG 63 then s
    else
      let out := bs.take 4 ++ toBytes 4 (dumpValid bs) ++ bs.drop 8
      let s1 : State := { s with out := s.out ++ dumpWrites dst out, coach := { s.coach with dump := none } }
      match err with
      | none => s1.answerTo 0x0050 q 0 true 0 0 0
      | some o => s1.answerTo 0x0050 q 0x0B true (BitVec.ofNat 64 o.toNat) 0 0

/-- SYNC_DUMP_DONE (R412). -/
def execSyncDumpDone (err : Option (BitVec 32)) (s : State) : Host.Outcome State Fault Refusal := .next (s.run (fun t => t.dumpDone err))

/-! ## STOP (R91, R421) -/

/-- STOP in the ACLK in which it is recorded: a run-out of RUNOUT + 1 legs begins, or nothing changes. -/
def State.stopNow (s0 : State) (p : Packet) : State :=
  let s := s0.inLeg
  if s.tt = 1 then
    let r := s.f HN_CTRL 15 12
    let n := s.leg.toNat + 1
    let s1 := s.setTT 2 r
    ({ s1 with seq := { s1.seq with runFirst := n }, coach := { s1.coach with stop := some (pSeq p) } } : State).reply p 1 0
      (BitVec.ofNat 64 n) (BitVec.ofNat 64 (n + r))
  else s.reply p 0 (BitVec.ofNat 64 s.tt) 0 0

/-- STOP. -/
def execStopCmd (p : Packet) (s : State) : Host.Outcome State Fault Refusal :=
  .next (s.booking 0x32 p [] (fun t => t.stopNow p))

/-! ## SELF_TEST (R410, R411, R445) -/

/-- UNIT and MAXLEGS of a packet, and the checks of UNIT and of the reserved bytes. -/
def pUnit (p : Packet) : UnitId := BitVec.ofNat 16 (pNum p 16 2)
def testFaults (p : Packet) : List PFault := fieldCheck (unitDomain (pUnit p)).isSome 16 ++ zeroed p 20 24

/-- A unit waits for a window: an active one that is no Yard group, while a timetable is admitted. -/
def State.mustWait (s : State) (u : UnitId) : Bool :=
  s.unitActive u && decide (fld u 15 8 ≠ 2) && decide (fld u 15 8 ≠ 3) && !s.noTimetable

/-- The timetable that runs, or that is admitted to run next, has a window for the unit. -/
def State.windowFor (s : State) (u : UnitId) : Bool :=
  ((s.tt = 1 || s.tt = 2) && (match s.seq.image with | some im => s.imageInspects im u | none => false)) ||
    (match s.coach.adm with | some a => s.imageInspects a.img u | none => false)

/-- SELF_TEST at once, deferred, or without a slot. -/
def State.startTest (s : State) (p : Packet) : State :=
  let u := pUnit p
  let n := pNum p 18 2
  let w := s.mustWait u
  let job : TestJob := ⟨pSeq p, u, if n = 0 then none else some n, w⟩
  let s1 : State := { s with coach := { s.coach with test := some job } }
  if !w then s1 else if s.windowFor u then s1.reply p 1 0 0 0 else s.reply p 3 0 0 0

/-- SELF_TEST. -/
def execSelfTest (p : Packet) (s : State) : Host.Outcome State Fault Refusal :=
  .next (s.booking 0x40 p (testFaults p) (fun t => t.startTest p))

end Sys2Proof.Machine
end

