-- ==== Sys2Proof/Machine/Admission.lean ====
section
/-! DEFINITION. Admission of a timetable: the checks of R77 on an image in the Yard against a harness, TT_ADMIT and TT_WITHDRAW.
A state whose registers hold the harness checked against is the view the checks read.
Sections: R60 to R69, R75 to R82, R185 to R187, R216, R219, R280, R281, R308, R419, R420, R427, R459. -/

namespace Sys2Proof.Machine

/-! ## The map (R75) -/

/-- A map entry with its place in the map. -/
structure MapEnt where
  num   : Nat
  cls   : Nat
  idx   : Nat
  user  : Nat
  resv  : Nat
  first : Nat
  last  : Nat
deriving DecidableEq, Repr

/-- The entries of an image's map. -/
def State.imageMap (s : State) (h : Header) : List MapEnt :=
  (List.range h.nmap).map (fun j =>
    let lo := s.peek (h.mapbase + 16 * j) 8
    let hi := s.peek (h.mapbase + 16 * j + 8) 8
    ⟨j, hi % 256, hi / 256 % 65536, hi / 2 ^ 24 % 256, hi / 2 ^ 32, lo % 2 ^ 32, lo / 2 ^ 32⟩)

/-- The instances of a station (R75): 16 channels, 8 lanes, one of every other. -/
def instances (code : Nat) : Nat := if code = 3 then 16 else if code = 4 then 8 else 1

/-- CLASS, INDEX and USER are as R75 defines them. -/
def MapEnt.known (e : MapEnt) : Bool :=
  if e.cls < 8 then decide (e.idx < instances e.cls) && decide (e.user = 0)
  else if e.cls = 0x10 then
    decide (e.idx < 512) && (decide (0xFD ≤ e.user) || (decide (e.user % 16 < 8) && decide (e.user / 16 < instances (e.user % 16))))
  else decide (e.cls = 0x11) && decide (e.idx < 8) && decide (e.user = 0)

/-- Mail draws and relay arrivals may run to the end of the leg, all else to the margin (R76). -/
def MapEnt.ends (e : MapEnt) (v : State) : Bool :=
  if e.cls = 0x11 ∨ (e.cls = 0x10 ∧ (e.user = 0xFE ∨ e.user = 0xFD)) then decide (e.last + 1 ≤ v.P)
  else decide (e.last + v.M + 1 ≤ v.P)

def MapEnt.formed (e : MapEnt) (v : State) : Bool := e.known && decide (e.resv = 0) && decide (e.first ≤ e.last) && e.ends v

/-- Two entries for one resource overlap. -/
def MapEnt.meets (e f : MapEnt) : Bool :=
  decide (e.cls = f.cls) && decide (e.idx = f.idx) && decide (e.first ≤ f.last) && decide (f.first ≤ e.last)

/-! ## Occupancy (R76) -/

/-- A resource that is used in cycles first to last; `wr`: the use needs a timetable-owned group. -/
structure Use where
  cls   : Nat
  idx   : Nat
  user  : Nat
  first : Nat
  last  : Nat
  wr    : Bool
deriving DecidableEq, Repr

/-- Cycles f to z lie in entries of a list; the first argument bounds the entries needed. -/
def coverGo : Nat → List MapEnt → Nat → Nat → Bool
  | 0, _, _, _ => false
  | n + 1, l, f, z =>
    match l.find? (fun e => decide (e.first ≤ f) && decide (f ≤ e.last)) with
    | none => false
    | some e => if z ≤ e.last then true else coverGo n l (e.last + 1) z

/-- A use is covered by entries of matching class, index and user. -/
def covered (m : List MapEnt) (u : Use) : Bool :=
  let l := m.filter (fun e => decide (e.cls = u.cls) && decide (e.idx = u.idx) && decide (e.user = u.user))
  decide (u.last < u.first) || coverGo (l.length + 1) l u.first u.last

/-- What earlier slots leave behind for the occupancy of later ones: the view with the shapes and VL as they then are, the shapes
not yet seen (cycle, tile, R, W fields; R196), the descriptors staged (channel, from when, R280). -/
structure Track where
  v      : State
  shapes : List (Nat × Nat × Nat × Nat)
  staged : List (Nat × Nat × Desc)
deriving DecidableEq, Repr

/-- A station's use. -/
def stUse (code inst first last : Nat) : Use := ⟨code, inst, 0, first, last, false⟩
/-- A bank's use in one cycle. -/
def bkUse (bank user cyc : Nat) (wr : Bool) : Use := ⟨0x10, bank, user, cyc, cyc, wr⟩

/-- D of an MX instruction (R115). -/
def State.mxD (v : State) (w : Insn) : Nat :=
  match opcode w with
  | 0x28 => v.tmmaD w
  | 0x29 => mvR w * (v.tileW (mmTA w) / 8)
  | _ => cdiv (v.tileRows (fld w 21 18)) 16

/-- An embedded instruction that its operands, the shapes and the harness make fault at issue, whatever the accumulators hold: it is
discarded there and occupies nothing (R23, R68; log 45). -/
def State.mxDoomed (v : State) (w : Insn) (site : Site) : Bool :=
  match opcode w with
  | 0x28 => decide (v.tileW (mmTA w) ≠ v.tileW (fld w 17 14)) || v.errStore (mmAcc w)
  | 0x29 =>
    decide (fld site.addr 5 0 ≠ 0) || decide (63 < fld site.aux 5 0 + fld site.aux 13 8) ||
      decide (bankBytes < site.addr.toNat + 8 * v.tileW (mmTA w)) || decide (v.tileRows (mmTA w) < mvB w) ||
      (v.mvAccs w).any (fun x => decide (15 < x) || decide (v.sumMode x ≠ v.sumMode (mmAcc w)) || v.errStore x)
  | _ =>
    v.errStore (mmAcc w) || decide (v.tileW (fld w 21 18) ≠ drainRowBytes (fld w 17 15)) ||
      (decide (fld w 17 15 = 4) && decide (v.sumMode (mmAcc w) ≠ 1))
def State.tfDoomed (v : State) (w : Insn) (site : Site) : Bool :=
  decide (opcode w = 0x2B) &&
    (let n := (v.tlConv w).wm (v.tileW (tlTile w))
     !(v.tlConv w).ok (tlStore w) || decide (site.addr.toNat % 8 ≠ 0) || decide (site.aux.toNat % 8 ≠ 0) ||
       (List.range (v.tileRows (tlTile w))).any (fun r =>
         decide (slotRow site r < 0) || decide ((yardBytes : Int) < slotRow site r + n)))
def State.vxDoomed (v : State) (w : Insn) (base : Nat) : Bool :=
  decide (opcode w = 0x23) &&
    (let k := vSize (vmW w)
     decide (base % k ≠ 0) ||
       (if vmIndexed w then decide (512 < bankOf base + 2 ^ vmNB w)
        else decide (yardBytes < base + k * min v.vl (vCap (vmW w)))))

/-- The uses of a FIRE (R281, R282): of a Yard-only transfer line by line, else its Yard side's banks up to the margin. -/
def State.fireUses (v : State) (t c : Nat) (d : Desc) : List Use :=
  let user := 3 + 16 * c
  match v.yardOnly d with
  | some (x, y) =>
    let n := d.len / 64
    stUse 3 c t (t + n + 16) ::
      ((List.range n).map (fun j => bkUse (bankOf (x + 64 * j)) user (t + 2 + j) false) ++
        (List.range n).map (fun j => bkUse (bankOf (y + 64 * j)) user (t + 15 + j) true))
  | none =>
    let z := v.P - v.M - 1
    let side := fun (l : List (Nat × Nat × Nat)) (wr : Bool) => l.flatMap (fun (a, n, _) =>
      match v.place a with
      | .yard o => (List.range (bankOf (o + (n - 1)) + 1 - bankOf o)).map (fun i => (⟨0x10, bankOf o + i, user, t, z, wr⟩ : Use))
      | _ => [])
    stUse 3 c t z :: (side d.srcP false ++ side d.dstP true)

/-- The stations that an INSPECT window holds (R74). -/
def unitStations (units : Nat) : List (Nat × Nat) :=
  let on := fun (b : Nat) (l : List (Nat × Nat)) => if units / 2 ^ b % 2 = 1 then l else []
  on 0 [(0, 0)] ++ (if units / 2 % 4 = 0 then [] else [(1, 0)]) ++ on 3 [(2, 0)] ++ on 4 ((List.range 8).map (4, ·)) ++
    on 5 ((List.range 16).map (3, ·))

/-- The uses of a slot at cycle t, and what it leaves behind. -/
def Track.slot (k : Track) (x : ImgSlot) : List Use × Track :=
  let t := x.cycle
  let due := k.shapes.filter (fun q => decide (q.1 ≤ t))
  let v := due.foldl (fun u q => (u.setF (TF_SHAPE q.2.1) 5 0 q.2.2.1).setF (TF_SHAPE q.2.1) 11 8 q.2.2.2) k.v
  let k1 : Track := { k with v := v, shapes := k.shapes.filter (fun q => decide (t < q.1)) }
  let o := swOpnd x.word
  let w := opInsn o
  let site := opSite ⟨0, 0, 0⟩ o
  let banks := fun (code : Nat) (wr : Bool) (l : List (Nat × Nat)) => l.map (fun p => bkUse p.1 code (t + p.2) wr)
  match swStation x.word, swOp x.word with
  | 0, _ =>
    (if v.mxDoomed w site then [] else stUse 0 0 t (t + v.mxD w - 1) :: banks 0 false (v.mxPlan w site), k1)
  | 1, _ =>
    let p := tfPlan w site (v.tileRows (tlTile w)) (v.tileW (tlTile w)) (v.tlConv w)
    let k2 := if opcode w = 0x2C ∧ tmSub w = 0 then { k1 with shapes := k1.shapes ++ [(t + 2, tmTile w, fld w 17 12, fld w 11 8)] } else k1
    (if v.tfDoomed w site then [] else stUse 1 0 t (t + p.1 - 1) :: banks 1 (tlStore w && decide (opcode w = 0x2B)) p.2, k2)
  | 2, _ =>
    let p := vxPlan w v.vl (fld o 60 32)
    let k2 : Track := if opcode w = 0x25 ∧ vFunc w = 0 then { k1 with v := v.setF VX_VL 10 0 (min (fld o 95 64) 1024) } else k1
    (if v.vxDoomed w (fld o 60 32) then []
     else stUse 2 0 t (t + p.1 - 1) :: banks 2 (vmStore w && decide (opcode w = 0x23)) p.2, k2)
  | 3, 1 =>
    let c := opCh o
    let off := fld o 60 32
    let rest := k1.staged.filter (fun q => decide (q.1 ≠ c))
    let k2 : Track := match ((v.stage c off).chan c).shadow with
      | some d => { k1 with staged := rest ++ [(c, t + 4, d)] }
      | none => { k1 with staged := rest }
    ([stUse 3 c t t, bkUse (bankOf off) (3 + 16 * c) (t + 1) true], k2)
  | 3, _ =>
    let c := opCh o
    match k1.staged.find? (fun q => decide (q.1 = c) && decide (q.2.1 ≤ t)) with
    | some q => (v.fireUses t c q.2.2, { k1 with staged := k1.staged.filter (fun q => decide (q.1 ≠ c)) })
    | none => ([], k1)
  | 4, _ =>
    let l := fld o 2 0
    (stUse 4 l t (t + 9) :: (List.range 4).map (fun j => bkUse (bankOf (fld o 60 32)) (4 + 16 * l) (t + 1 + j) false), k1)
  | 5, op =>
    let src := fld o 31 0
    let dst := fld o 63 32
    let b := if op ≤ 3 then
        [bkUse (bankOf src) 5 (t + 1) false, bkUse (bankOf dst) 5 (t + distClass 1 src) true]
      else if op ≤ 5 then [bkUse (bankOf src) 5 (t + 1) true] else []
    (stUse 5 0 t t :: b, k1)
  | 6, _ => ([stUse 6 0 t t, bkUse (bankOf (v.mailTag (fld o 3 0))) 6 (t + 1) true], k1)
  | 7, 1 => ([stUse 7 0 t t, bkUse (bankOf (fld o 31 0)) 7 (t + 1) false], k1)
  | 7, 2 => (stUse 7 0 t t :: (unitStations (fld o 37 32)).map (fun p => stUse p.1 p.2 (t + 1) (t + fld o 26 0)), k1)
  | 7, _ => ([stUse 7 0 t t], k1)
  | _, _ => ([], k1)

/-- A slot in its place by cycle, then lane. -/
def insertSlot (x : ImgSlot) : List ImgSlot → List ImgSlot
  | [] => [x]
  | y :: t => if x.cycle < y.cycle ∨ (x.cycle = y.cycle ∧ x.lane ≤ y.lane) then x :: y :: t else y :: insertSlot x t

/-- The uses of every slot, with its number and its transfer's DRAM charge (R81), in order of issue. -/
def trackAll : List ImgSlot → Track → List (Nat × List Use × Option Desc)
  | [], _ => []
  | x :: t, k =>
    let (us, k1) := k.slot x
    let d := if swStation x.word = 3 ∧ swOp x.word = 2 then
        (k.staged.find? (fun q => decide (q.1 = opCh (swOpnd x.word)) && decide (q.2.1 ≤ x.cycle))).map (·.2.2) else none
    (x.num, us, d) :: trackAll t k1

/-- The descriptors that a leg's slots leave staged and not fired: the next leg finds them there (R280). -/
def stagedAfter : List ImgSlot → Track → List (Nat × Nat × Desc)
  | [], k => k.staged
  | x :: t, k => stagedAfter t (k.slot x).2

/-- The uses of the slots of one leg among others of the same image: a FIRE before its channel's STAGE fires what the leg before
staged. -/
def State.slotUses (v : State) (sl : List ImgSlot) : List (Nat × List Use × Option Desc) :=
  let l := sl.foldr insertSlot []
  trackAll l ⟨v, [], (stagedAfter l ⟨v, [], []⟩).map (fun q => (q.1, 0, q.2.2))⟩

/-- The fetches of a lane (R65), each with the number of the first slot word of its line (log 18). -/
def State.fetchUses (off : Nat) (nslot : List Nat) (sl : List ImgSlot) : List (Nat × Use) :=
  (List.range 4).flatMap (fun i =>
    let base := laneBase off nslot i
    let num := (nslot.take i).foldl (· + ·) 0
    let use := fun (n cyc : Nat) => (num + 4 * n, bkUse (bankOf (base + 64 * n)) 0xFF cyc true)
    let lines := cdiv (nslot.getD i 0) 4
    (List.range (min 5 lines)).map (fun j => use j (44 + 5 * i + j)) ++
      (sl.filter (fun x => decide (x.lane = i) && decide (x.idx % 4 = 0) && decide (x.idx / 4 + 4 < lines))).map (fun x =>
        use (x.idx / 4 + 4) x.cycle))

/-! ## The checks (R77, R459) -/

/-- A reason code, the kind of its index and the index (R419). -/
abbrev Denial := Nat × Nat × Nat

def noIndex (code : Nat) : Denial := (code, 0xFF, 0xFFFFFFFF)

/-- The least of a list of numbers. -/
def least : List Nat → Option Nat
  | [] => none
  | a :: t => some (t.foldl min a)

/-- Operand bits that no operation defines (R62, R68 to R74). -/
def operandsBad (st op : Nat) (o : Opnd) : Bool :=
  match st, op with
  | 3, 1 => stageBad o
  | 3, 2 => decide (fld o 95 4 ≠ 0)
  | 4, 1 => sendBad o
  | 5, 4 => addrBad o
  | 5, 5 => addrBad o
  | 5, 6 => ctrBad o
  | 5, 7 => ctrBad o
  | 5, _ => wordsBad o
  | 6, _ => decide (fld o 95 4 ≠ 0)
  | 7, 1 => addrBad o
  | 7, 2 => decide (fld o 31 27 ≠ 0) || decide (fld o 95 38 ≠ 0)
  | 7, _ => decide (o ≠ 0)
  | 15, _ => decide (o ≠ 0)
  | _, _ => issueBad o

/-- An embedded instruction raises ILLEGAL_OP at its station, features aside (R68). -/
def State.insnBad (s : State) (st : Nat) (o : Opnd) : Bool :=
  let v := s.wr (CM_FEAT 0) (maskOf 63 0)
  let site := opSite ⟨0, 0, 0⟩ o
  let r := match st with
    | 0 => v.mxBody (opInsn o) site
    | 1 => v.tfBody (opInsn o) site
    | _ => v.vxBody (opInsn o) site
  match r with
  | .fault .illegalOp _ _ => true
  | _ => false

/-- Check 0x01 of a slot word. -/
def State.wordBad (s : State) (w : BitVec 128) : Bool :=
  (slotCmd w).isNone || operandsBad (swStation w) (swOp w) (swOpnd w) ||
    (decide (swStation w < 3) && s.insnBad (swStation w) (swOpnd w))

/-- The counts of a header and the place of its image are in range, so that its slot words can be read. -/
def Header.countsOk (h : Header) (off : Nat) : Bool :=
  h.nslot.all (fun n => decide (1 ≤ n)) && decide (h.nslot.foldl (· + ·) 0 ≤ 262144) && decide (off + imageBytes h.nslot ≤ yardBytes)

/-- The header of check 0x02. -/
def Header.ok (h : Header) (off : Nat) : Bool :=
  h.countsOk off && decide (1 ≤ h.nmap) && decide (h.nmap ≤ 1048576) && decide (h.mapbase % 16 = 0) &&
    decide (h.mapbase + 16 * h.nmap ≤ yardBytes) && decide (h.resv = 0)

/-- A slot word of check 0x02: END last and only there, DELTA at least 1 after the first. -/
def slotPlaced (nslot : List Nat) (x : ImgSlot) : Bool :=
  (decide (swStation x.word = 15) == decide (x.idx + 1 = nslot.getD x.lane 0)) && (decide (x.idx = 0) || decide (swDelta x.word ≠ 0))

/-- Check 0x03. -/
def mapFault (v : State) (m : List MapEnt) : Option Nat :=
  match m.find? (fun e => !e.formed v) with
  | some e => some e.num
  | none => (m.find? (fun e => m.any (fun f => decide (f.num < e.num) && e.meets f))).map (·.num)

/-- The bytes of a transfer's bursts whose fabric side lies in DRAM, each charged 512 at least (R81). -/
def chargeGo : Nat → Nat → Desc → Nat
  | 0, _, _ => 0
  | n + 1, p, d =>
    match d.burst p with
    | some (_, _, k, _, _) => if k = 0 then 0 else max k 512 + chargeGo n (p + k) d
    | none => 0
def State.charge (v : State) (d : Desc) : Nat :=
  if (d.srcP ++ d.dstP).any (fun p => match v.place p.1 with | .dram => true | _ => false) then chargeGo (2 * (d.len / 4096) + 4) 0 d
  else 0

/-- The floor of R81. -/
def State.dramFloor (v : State) : Nat := 4800 * (4 - v.f HN_CTRL 11 10) * (v.P - v.M) / 28

/-- ENERGY fits the cap (R82). -/
def State.energyFits (v : State) (e : Nat) : Bool :=
  decide (e * 256 * 14000 ≤ v.f PW_CAP 10 0 * v.P * (256 - v.f PW_MARGIN 7 0))

/-- A group that a use may not reach (R35): fetches, draws and writes need timetable-owned groups. -/
def State.useBad (v : State) (u : Use) : Bool :=
  decide (u.cls = 0x10) &&
    (let c := v.f (YD_OWNER (u.idx / 2)) 2 0
     !(if u.wr then ttWrites c else ttReads c))

/-- An entry that books a bank in a group its user may not use. -/
def State.entBad (v : State) (e : MapEnt) : Bool :=
  v.useBad ⟨e.cls, e.idx, e.user, e.first, e.last, decide (e.user = 0xFE) || decide (e.user = 0xFF)⟩

/-- The bit of the feature a slot needs (check 0x0A). -/
def slotFeature (w : BitVec 128) : Option Nat :=
  let i := opInsn (swOpnd w)
  match swStation w, swOp w with
  | 0, _ => if opcode i = 0x29 then some featExpress else if opcode i = 0x28 ∧ bit i 7 then some featDray else none
  | 4, _ => some featRelay
  | 6, _ => some featMail
  | 7, 2 => some featInspect
  | _, _ => none

/-- Check 0x0B for mail slot k (R76, R87, R88). -/
def State.mailBad (v : State) (sl : List ImgSlot) (m : List MapEnt) (k : Nat) : Bool :=
  if !v.mailEn k then sl.any (fun x => decide (swStation x.word = 6) && decide (fld (swOpnd x.word) 3 0 = k))
  else
    let dl := v.mailD k
    let lines := fun (w : Word) => (List.range (bufLen w)).map (fun j => bkUse (bankOf (bufOff w + 64 * j)) 0xFE (dl + 1 + j) true)
    let us := bkUse (bankOf (v.mailTag k)) 0xFE dl true :: (lines (v.rd (HN_MAIL_BUF k)) ++ lines (v.rd (HN_MAIL_SUB k)))
    decide (dl < 64) || us.any (fun u => decide (v.P < u.last + 1)) || !us.all (covered m)

/-- The first check of R77 that the image at an offset fails against the harness a view holds. -/
def State.admits (v : State) (off : Nat) : Option Denial :=
  let h := v.header off
  let sl := if h.countsOk off then v.imageSlots off h.nslot else []
  let slot := fun (c : Nat) (p : ImgSlot → Bool) => (sl.find? p).map (fun x => ((c, 0, x.num) : Denial))
  match slot 1 (fun x => v.wordBad x.word) with
  | some d => some d
  | none =>
    if !h.ok off then some (noIndex 2)
    else
      let m := v.imageMap h
      let us := v.slotUses sl
      let ends := sl.filter (fun x => decide (swStation x.word = 15))
      let top := ends.foldl (fun c x => max c x.cycle) 0
      let bads := fun (p : Use → Bool) => us.filterMap (fun q => if q.2.1.any p then some q.1 else none)
      (slot 2 (fun x => !slotPlaced h.nslot x)).orElse (fun _ =>
      ((mapFault v m).map (fun j => ((3, 1, j) : Denial))).orElse (fun _ =>
      ((least (bads (fun u => !covered m u) ++ ((State.fetchUses off h.nslot sl).filter (fun q => !covered m q.2)).map (·.1))).map
        (fun j => ((4, 0, j) : Denial))).orElse (fun _ =>
      (if v.owned ttWrites off (imageBytes h.nslot) && v.owned ttWrites h.mapbase (16 * h.nmap) then
        ((least (bads v.useBad)).map (fun j => ((5, 0, j) : Denial))).orElse (fun _ =>
          (m.find? v.entBad).map (fun e => ((5, 1, e.num) : Denial)))
       else some (noIndex 5)).orElse (fun _ =>
      (if v.tmode then none else slot 6 (fun x => decide (swStation x.word < 3))).orElse (fun _ =>
      (if h.leglen = top ∧ top + v.M + 1 ≤ v.P then none else slot 7 (fun x => decide (swStation x.word = 15) && decide (x.cycle = top))).orElse (fun _ =>
      (if h.dram = (us.filterMap (·.2.2)).foldl (fun n d => n + v.charge d) 0 ∧ h.dram ≤ v.dramFloor then none else some (noIndex 8)).orElse (fun _ =>
      (if v.energyFits h.energy then none else some (noIndex 9)).orElse (fun _ =>
      (slot 10 (fun x => match slotFeature x.word with
        | some b => !v.feature b || decide (h.features / 2 ^ b % 2 = 0)
        | none => false)).orElse (fun _ =>
      (((List.range 16).find? (v.mailBad sl m)).map (fun k => ((11, 2, k) : Denial))).orElse (fun _ =>
      if v.b PW_CLKCTL 0 then some (noIndex 12) else none))))))))))

/-! ## The harness checked against (R415, R419) -/

/-- The state with the staged harness in its registers. -/
def State.stagedView (s : State) : State := s.coach.staged.foldl (fun t p => t.setHarness p.1 p.2) s

/-! ## TT_ADMIT, TT_WITHDRAW -/

/-- The checks of OFFSET, WHICH and the reserved bytes. -/
def admitFaults (p : Packet) : List PFault :=
  fieldCheck (decide (pNum p 16 8 % 64 = 0) && decide (pNum p 16 8 < 0x18000000)) 16 ++ fieldCheck (decide (pNum p 24 1 ≤ 1)) 24 ++
    zeroed p 25 32

/-- TT_ADMIT: the admission proceeds in the background. -/
def execTtAdmit (p : Packet) (s : State) : Host.Outcome State Fault Refusal :=
  .next (s.booking 0x30 p (admitFaults p) (fun t =>
    { t with coach := { t.coach with admitting := some (pSeq p, pNum p 16 8, decide (pNum p 24 1 = 1)) } }))

/-- The errors of the words of an image and its map are recorded as they are read (R236). -/
def State.seeImage (s : State) (spans : List (Nat × Nat)) : State :=
  spans.foldl (fun t p => t.seeRange p.1 p.2) s

/-- What an admitted image is, as its header and its map give it. -/
def State.imageOf (s : State) (off : Nat) : Image :=
  let h := s.header off
  ⟨off, h.id, h.energy, h.nslot, (s.imageMap h).filterMap (fun e =>
    if e.cls = 0x10 ∧ e.user = 0xFD then some (e.idx, e.first, e.last) else none),
   (s.imageMap h).filterMap (fun e => if e.cls = 0x10 ∧ e.user % 16 = 3 then some (e.user / 16, e.idx, e.first, e.last) else none)⟩

/-- The admission ends (R77, R419). -/
def State.admitDone (s : State) : State :=
  match s.coach.admitting with
  | none => s
  | some (q, off, which) =>
    let v := if which then s.stagedView else s
    let h := s.header off
    let spans := [(off, imageBytes h.nslot), (h.mapbase, 16 * h.nmap)]
    let s1 : State := { s with coach := { s.coach with admitting := none } }
    match v.admits off with
    | some (code, kind, i) =>
      s1.answerTo 0x0030 q 7 true (BitVec.ofNat 64 (code + kind * 2 ^ 8 + i * 2 ^ 16)) 0 0
    | none =>
      let a : Admission := ⟨s.imageOf off, spans, v.settingsRead, false⟩
      let s2 := (s1.seeImage spans).setB HN_TT_STATE 16 true
      ({ s2 with coach := { s2.coach with adm := some a } } : State).answerTo 0x0030 q 0 true 0 (BitVec.ofNat 64 h.id)
        (BitVec.ofNat 64 h.leglen)

/-- TT_ADMIT_DONE (R419). -/
def execTtAdmitDone (s : State) : Host.Outcome State Fault Refusal := .next (s.run State.admitDone)

/-- No admission is left, and PENDING is 0 (R420, R439). -/
def State.withdraw (s : State) : State :=
  ({ s with coach := { s.coach with adm := none } } : State).setB HN_TT_STATE 16 false

/-- TT_WITHDRAW (R420). -/
def execTtWithdraw (p : Packet) (s : State) : Host.Outcome State Fault Refusal :=
  .next (s.booking 0x31 p [] (fun t => t.withdraw.replyOk p))

end Sys2Proof.Machine
end

