-- ==== Sys2Proof/Machine/Sync.lean ====
section
/-! DEFINITION. Tag, counter and mailbox instructions of the core, and waiting: wakes, berths, polling, remote re-sends.
Sections: R33 to R39, R229 to R250, R255. -/

namespace Sys2Proof.Machine

/-! ## Waiting -/

/-- The core waits on an object (R244, R248, R250). One that polls re-sends 64 ACLK after it reached the object, and reaches it again after
its distance class (R230). -/
def State.waitOn (s : State) (w : Insn) (o : Obj) (val : Nat) (polling : Bool) : Ran :=
  let (s1, poll) := s.enroll o idCore val polling
  let s2 : State := { s1 with core := { s1.core with run := .wait, wait := some ⟨w, .local o, fB w && !poll, poll⟩ } }
  .hold (if poll then s2.later (64 + waitClass idCore o) (.pollRetry 0) else s2)

/-- What becomes of an instruction whose condition is not met: with nw it fails and is counted (R238), else it waits. -/
def State.unmet (s : State) (w : Insn) (o : Obj) (val : Nat) (nw polling : Bool) (fail : State → State) : Ran :=
  if nw then .done ((fail s).count YD_NWFAIL_CNT 1) else s.waitOn w o val polling

/-- A status of 1 or 0 in gs, with nw. -/
def State.setStatus (s : State) (w : Insn) (v : Word) : State := if fNw w then s.setG (fGs w) v else s

/-! ## Tag instructions (R237 to R241) -/

/-- Encoding rules of 0x30 and 0x31 (R240) for a sub. -/
def State.tagIllegal (s : State) (w : Insn) (op sub : Nat) : Bool :=
  decide (opcode w ≠ op) || decide (fSub w ≠ sub) ||
    (if op = 0x30 then
      decide (fld w 21 15 ≠ 0) || (!fNw w && decide (fGs w ≠ 0)) || (fB w && (fNw w || !s.feature featBerths))
    else decide (fld w 23 10 ≠ 0) || (decide (sub ≠ 2) && decide (fGd w ≠ 0)))

/-- The access kind of a tag instruction (R375). -/
def tagAccess (w : Insn) : Access := if (opcode w = 0x30 && fSub w = 2) || (opcode w = 0x31 && fSub w = 2) then .read else .readWrite

/-- A tag instruction completes with a value. -/
def State.tagDone (s : State) (w : Insn) (v : Word) : State :=
  let s1 := if tagGives w then s.setG (fGd w) v else s
  if tagNw w then s1.setG (fGs w) 1 else s1

/-- A tag instruction reaches its word in this block's Yard (R237, R238, R240 steps 7 and 8). -/
def State.tagAt (s : State) (w : Insn) (off : Nat) (polling : Bool) : Ran :=
  if ownCoach ≤ s.owner off then .fault .yardOwner (s.g (fGa w)) s
  else if inSet off s.yard.bad then .fault .busError (BitVec.ofNat 64 (s.yardPA off)) (s.noteUE off)
  else
    match s.tagged off (tagOpOf w (s.g (fGd w))) idCore with
    | (true, v, s1) => .done (s1.tagDone w v)
    | (false, _, s1) => s1.unmet w (.word off) 0 (tagNw w) polling (fun t => t.setG (fGs w) 0)

/-- The core's request joins its bank's tailboard queue (R33, R231). -/
def State.queueCore (s : State) (w : Insn) (off : Nat) : Ran :=
  let t : State := { s with core := { s.core with run := .wait, wait := some ⟨w, .queued off, fB w, false⟩ } }
  .hold (t.joinTail (bankOf off) .core)

/-- A tag instruction of the core reaches a bank: through the main port in a group the core owns, else through the tailboard port (R33,
R35). -/
def State.tagReach (s : State) (w : Insn) (y : Nat) (polling : Bool) : Ran :=
  if s.owner y ≠ ownCore ∧ s.owner y < ownCoach then
    s.viaPort (bankOf y) (fun t => t.tagAt w y polling) (fun t => t.queueCore w y)
  else s.tagAt w y polling

/-- A request to another block's Yard (R241): its response is what memory outside answers at its address. An error response is
BUS_ERROR; eight bytes are success with that value; none is a condition that is not met. -/
def State.remoteTry (s : State) (w : Insn) (addr : Nat) (op : FabOp) (gives always nw : Bool) (o : Outside) : Ran :=
  let s1 := s.send (.tagOp addr op)
  if o.wrErr.contains addr then .fault .busError (BitVec.ofNat 64 addr) s1
  else
    match o.get addr 8 with
    | some bs =>
      let s2 := if gives then s1.setG (fGd w) (BitVec.ofNat 64 (ofBytes bs)) else s1
      .done (if nw then s2.setG (fGs w) 1 else s2)
    | none =>
      if always then .done (if gives then s1.setG (fGd w) 0 else s1)
      else if nw then .done ((s1.setG (fGs w) 0).count YD_NWFAIL_CNT 1)
      else
        .hold (({ s1 with core := { s1.core with run := .wait, wait := some ⟨w, .remote addr, false, false⟩ } } : State).later 256
          (.remoteResend ⟨[], []⟩))

/-- YFILL, YEMPTY and YTAG never fail (R237). -/
def tagAlways (w : Insn) : Bool := opcode w = 0x31

/-- A tag instruction (R237 to R241). -/
def State.tagInsn (s : State) (w : Insn) (op sub : Nat) (o : Outside) : Ran :=
  let va := s.g (fGa w)
  if s.tagIllegal w op sub then .fault .illegalOp 0 s
  else if s.priv = 0 ∧ ((op = 0x30 ∧ fB w) ∨ (op = 0x31 ∧ sub ≠ 2)) then .fault .priv 0 s
  else if va.toNat % 8 ≠ 0 then .fault .align va s
  else
    match (s.drainAll o).translate va (tagAccess w) o with
    | (.bad c fa, s1) => .fault c fa s1
    | (.ok pa cls, s1) =>
      match cls, s1.place pa with
      | some .yard, .yard y =>
        s1.tagReach w y false
      | some .remote, _ =>
        if !inAYard pa 8 then .fault .tagMisuse va (s1.count YD_MISUSE_CNT 1)
        else s1.remoteTry w pa (tagOpOf w (s1.g (fGd w))) (tagGives w) (tagAlways w) (tagNw w) o
      | none, _ => .fault .busError (BitVec.ofNat 64 pa) s1
      | _, _ => .fault .tagMisuse va (s1.count YD_MISUSE_CNT 1)

/-! ## Counters (R242, R243) -/

/-- Encoding rules of 0x32 for a sub (R243). -/
def State.ctrIllegal (s : State) (w : Insn) (sub : Nat) : Bool :=
  decide (opcode w ≠ 0x32) || decide (fSub w ≠ sub) || (decide (sub = 3) && decide (fGa w ≠ 0)) ||
    (decide (sub ≠ 2) && (fNw w || fB w)) || (fB w && !s.feature featBerths)

/-- VALUE of a counter instruction. -/
def State.ctrValue (s : State) (w : Insn) : Nat := fld (s.g (fGa w)) 31 0

/-- The checks of a counter instruction. -/
def State.ctrCheck (s : State) (w : Insn) (sub : Nat) (body : Ran) : Ran :=
  if s.ctrIllegal w sub then .fault .illegalOp 0 s
  else if s.priv = 0 ∧ (fB w ∨ (sub ≤ 1 ∧ fCtr w < 1024)) then .fault .priv 0 s
  else body

/-- YINC and YDEC: gd receives the value before the operation. -/
def State.yincdec (s : State) (w : Insn) (sub : Nat) (o : Outside) : Ran :=
  let t := s.drainAll o
  let c := fCtr w
  let old : Word := BitVec.ofNat 64 (t.ctr c)
  let v := t.ctrValue w
  s.ctrCheck w sub (.done ((if sub = 0 then t.ctrInc c v idCore else t.ctrDec c v idCore).setG (fGd w) old))

/-- YWAIT reaches its counter. -/
def State.ywaitAt (s : State) (w : Insn) (polling : Bool) : Ran :=
  let c := fCtr w
  if s.ctrValue w ≤ s.ctr c then .done (s.setG (fGd w) (BitVec.ofNat 64 (s.ctr c)))
  else s.unmet w (.ctr c) (s.ctrValue w) (fNw w) polling (fun t => t.setG (fGd w) 0)

/-! ## Mailboxes (R255) -/

/-- Encoding rules of 0x33 for a sub. -/
def State.mbIllegal (s : State) (w : Insn) (sub : Nat) : Bool :=
  decide (opcode w ≠ 0x33) || decide (fSub w ≠ sub) || decide (fld w 22 15 ≠ 0) || (!fNw w && decide (fGs w ≠ 0)) ||
    !s.feature featMailbox

/-- A local mailbox instruction reaches its mailbox: 0 send, 1 receive. -/
def State.mbAt (s : State) (w : Insn) (polling : Bool) : Ran :=
  let n := fld (s.g (fGa w)) 7 0
  let met := if fSub w = 0 then !s.mboxFull n else s.mboxFull n
  if met then
    .done ((if fSub w = 0 then s.mbPut n (s.g (fGd w)) idCore
      else (s.mbTake n idCore).setG (fGd w) (s.mboxVal n)).setStatus w 1)
  else s.unmet w (.mbox n) 0 (fNw w) polling (fun t => t.setG (fGs w) 0)

/-- The address a remote send goes to: the block's place in R41. -/
def mbAddr (v : Word) : Nat := fld v 17 12 * 2 ^ 50 + 0x100000000000 + fld v 11 8 * 0x100000000

/-- MBSEND (0) and MBRECV (1). -/
def State.mbInsn (s : State) (w : Insn) (sub : Nat) (o : Outside) : Ran :=
  let v := s.g (fGa w)
  if s.mbIllegal w sub then .fault .illegalOp 0 s
  else if fld v 11 8 = s.pins.blk.toNat ∧ fld v 17 12 = s.pins.pkg.toNat then (s.drainAll o).mbAt w false
  else if sub = 1 then .fault .tagMisuse v (s.count YD_MISUSE_CNT 1)
  else
    let t := s.drainAll o
    t.remoteTry w (mbAddr v) (.mbsend (BitVec.ofNat 8 (fld v 7 0)) (t.g (fGd w))) false false (fNw w) o

/-! ## Retries (R247, R249, R250) -/

/-- A waiting instruction's retry ends: it retires, faults unless an interrupt is eligible (R353), or waits again. -/
def Ran.retried (r : Ran) (pc : Word) (w : Insn) : State :=
  let free := fun (t : State) => ({ t with core := { t.core with run := .run, wait := none } } : State)
  match r with
  | .done t => (free t).retire (pc + 4)
  | .goto t p => (free t).retire p
  | .fault c fa t =>
    (match (free t).chosenIrq with
     | some i => (free t).takeIrq i
     | none => (free t).syncFault c fa pc w)
  | .hold t => t

/-- The core re-sends its operation: its wired slot is freed as the retry reaches the object. -/
def State.resendCore (s : State) : State :=
  match s.core.wait with
  | some ⟨w, .local o, _, p⟩ =>
    let s1 := s.leave o idCore
    let r := match o with
      | .word off => s1.tagReach w off p
      | .ctr _ => s1.ywaitAt w p
      | .mbox _ => s1.mbAt w p
    r.retried s.core.pc w
  | _ => s

/-- A waiter re-sends its operation: the core, or the channel at its gate. `polling`: it polled. -/
def State.resend (s : State) (id : Nat) (polling : Bool) : State :=
  if id = idCore then s.resendCore
  else
    let c := id - 0x10
    match (s.chan c).active with
    | some d => if d.gated then (s.leave (.ctr (fld d.gate 11 0)) id).gateCheck c polling else s
    | none => s

/-- A waiter that waits in a berth (R248): the core by its b bit, the priority channels, the ids of YD_BERTHSET. -/
def State.inBerth (s : State) (id : Nat) : Bool :=
  if id = idCore then (match s.core.wait with | some w => w.berth | none => false)
  else decide (idChan 48 ≤ id) || (List.range 8).any (fun i => decide (s.f YD_BERTHSET (8 * i + 7) (8 * i) = id))

/-- How long a re-send takes to reach what its waiter waits on (R230, R243). -/
def State.reach (s : State) (id : Nat) : Nat :=
  match s.core.wait with
  | some ⟨_, .local o, _, _⟩ => if id = idCore then waitClass idCore o else 4
  | _ => 4

/-- A wake arrives (R247): in a hold the waiter re-sends now, in a berth 16 ACLK later; its operation reaches the object after the
distance class (R230), which is when BERTH_RESEND carries it out. A waiter that has left ignores the wake. -/
def State.wakeArrive (s : State) (id : Nat) : State :=
  if !inSet id s.yard.wakes then s
  else
    ({ s with yard := { s.yard with wakes := setIn id false s.yard.wakes, ungating := setIn id true s.yard.ungating } } : State).later
      ((if s.inBerth id then 16 else 0) + s.reach id) (.berthResend (BitVec.ofNat 8 id))

/-- The re-send of a woken waiter reaches its object. -/
def State.berthSend (s : State) (id : Nat) : State :=
  if !inSet id s.yard.ungating then s
  else ({ s with yard := { s.yard with ungating := setIn id false s.yard.ungating } } : State).resend id false

/-- A waiter polls: it is not wired (R250). -/
def State.polls (s : State) (id : Nat) : Bool :=
  if id = idCore then (match s.core.wait with | some w => w.polling | none => false)
  else
    let c := id - 0x10
    match (s.chan c).active with
    | some d => d.gated && !(s.yard.room.any (fun e => decide (e.obj = .ctr (fld d.gate 11 0)) && e.wired.any (fun p => decide (p.1 = id))))
    | none => false

/-- A remote operation is re-sent (R241); YD_REMOTE_POLL counts it. -/
def State.remoteAgain (s : State) (o : Outside) : State :=
  match s.core.wait with
  | some ⟨w, .remote addr, _, _⟩ =>
    let s1 := s.count YD_REMOTE_POLL 1
    let op := if opcode w = 0x33 then FabOp.mbsend (BitVec.ofNat 8 (fld (s.g (fGa w)) 7 0)) (s.g (fGd w)) else tagOpOf w (s.g (fGd w))
    (s1.remoteTry w addr op (tagGives w) false false o).retried s.core.pc w
  | _ => s

/-- A re-send that was due is due no more. -/
def State.claimResend (s : State) : State :=
  { s with agenda := s.agenda.eraseP (fun p => match p.2 with | .remoteResend _ => true | _ => false) }

/-! ## The commands -/

end Sys2Proof.Machine
end

