-- ==== Sys2Proof/Machine/Fabric.lean ====
section
/-! DEFINITION. Requests that arrive through the fabric, the tailboard queues, fabric time-outs and late responses.
Sections: R8, R33, R35, R37, R47, R231, R236, R255, R271, R298, R299. -/

namespace Sys2Proof.Machine

def fabTagged : FabOp → Bool
  | .read _ => false
  | .write _ _ => false
  | .mbsend _ _ => false
  | _ => true

/-- A plain access to the Yard by the fabric reaches groups of the unscheduled class alone (R35). -/
def fabPlain (c : Nat) : Bool := c = ownUns

/-- A request on this block's Yard (R35, R37, R236, R271). -/
def State.fabYard (s : State) (y : Nat) (op : FabOp) : Resp × State :=
  match op with
  | .read n => if s.owned fabPlain y n then let (bs, t) := s.yRead y n; (.data bs, t) else (.error, s)
  | .write bs fill =>
    if s.owned fabPlain y bs.length then
      let t := s.yWrite y bs
      (.done, if fill then
          t.fillWords y bs.length idFabric
        else t)
    else (.error, s)
  | _ =>
    if ownCoach ≤ s.owner y ∨ y % 8 ≠ 0 then (.error, s)
    else let (ok, v, t) := s.tagged y op idFabric; (.tagged ok v, t)

/-- A request on the MMIO window (R8, R47). -/
def State.fabWindow (s : State) (w : Nat) (host : Bool) (op : FabOp) : Resp × State :=
  match op with
  | .read n => match s.windowRead w n with | (some bs, t) => (.data bs, t) | (none, t) => (.error, t)
  | .write bs _ =>
    let (ok, t) := s.windowWrite (if host then .host else .block) w bs.length (ofBytes bs)
    (if ok then .done else .error, t)
  | _ => (.error, s)

/-- A request is carried out (R298). -/
def State.fabDo (s : State) (q : FabReq) : Resp × State :=
  match q.op with
  | .mbsend n v =>
    if s.mboxFull n.toNat then (.tagged false 0, s) else (.tagged true 0, s.mbPut n.toNat v idFabric)
  | op =>
    match s.place q.addr.toNat with
    | .yard y => s.fabYard y op
    | .window w => s.fabWindow w q.host op
    | _ => (.error, s)

/-- A request is answered. -/
def State.fabAnswer (s : State) (q : FabReq) : State := let (r, t) := s.fabDo q; t.send (.resp q r)

/-- A request that goes to a tailboard port (R33): a tagged operation in a group of another class. -/
def State.fabTail (s : State) (q : FabReq) : Option Nat :=
  if !fabTagged q.op then none
  else
    match s.place q.addr.toNat with
    | .yard y => if s.owner y ≠ ownUns ∧ s.owner y < ownCoach then some (bankOf y) else none
    | _ => none

/-- The bank in whose queue an earlier request of the fabric to the same line waits (R298). -/
def State.lineWaits (s : State) (q : FabReq) : Option Nat :=
  s.yard.tail.findSome? (fun p => match p.2 with
    | .fab r => if r.addr.toNat / 64 = q.addr.toNat / 64 then some p.1 else none
    | _ => none)

/-- FABRIC_REQUEST_ARRIVAL (R298): a tailboard request waits in its bank's queue if another takes its cycle or the queue is not
empty (R33, R231); any request waits behind an earlier one to its line. -/
def State.fabArrive (s : State) (q : FabReq) : State :=
  match s.fabTail q, s.lineWaits q with
  | some b, _ => if q.queued then s.joinTail b (.fab q) else s.viaPort b (fun t => t.fabAnswer q) (fun t => t.joinTail b (.fab q))
  | none, some b => s.joinTail b (.fab q)
  | none, none => s.fabAnswer q

/-! ## The tailboard queue (R33, R38) -/

/-- Rank of a queued request: the core, the Waybill engine, the fabric. -/
def TailReq.rank : TailReq → Nat
  | .core => 0
  | .fill _ _ => 1
  | .fab _ => 2

/-- The request that a bank serves next: of the 8 in its queue the first in rank, the oldest of a rank; those that came after the 8 are
held at their sources until a place frees (R231). -/
def State.tailNext (s : State) (b : Nat) : Option TailReq :=
  (((s.yard.tail.filter (fun p => decide (p.1 = b))).take 8).map (·.2)).foldl (fun best r => match best with
    | none => some r
    | some x => if r.rank < x.rank then some r else some x) none

/-- One queued request of a bank is served, under the ownership that now stands (R38). -/
def State.tailServe (s : State) (b : Nat) : State :=
  match s.tailNext b with
  | none => s
  | some r =>
    let s1 := ({ s with yard := { s.yard with tail := s.yard.tail.erase (b, r) } } : State).takePort b
    match r with
    | .core =>
      match s1.core.wait with
      | some ⟨w, .queued off, _, _⟩ => (s1.tagAt w off false).retried s1.core.pc w
      | _ => s1
    | .fill c off =>
      if ownCoach ≤ s1.owner off then s1.setB (WB_CH_STATUS c) 36 true else (s1.tagged off .yfill (idChan c)).2.2
    | .fab q => s1.fabAnswer q

/-! ## Time-outs (R299) -/

/-- A request without a response completes with an error towards its requester, which reports it as any other (R42). The error of an
access that is answered within a command comes with that command (log 29). -/
def State.fabTimeout (s : State) (who : Requester) : State :=
  let s1 := s.count RL_CNT_FABTO 1
  match who with
  | .wbRead ch p => s1.wbRsp ch.toNat (.readErr p)
  | .wbWrite ch p => s1.wbRsp ch.toNat (.writeErr p)
  | .wbFill ch => s1.wbRsp ch.toNat .fillErr
  | .storeDrain =>
    (match s1.core.sb with
     | e :: _ => if e.cls = .yard then s1 else s1.drainHead ⟨[], e.bytes.map (fun p => e.line * 64 + p.1)⟩
     | [] => s1)
  | .packetRead => s1.packetFails
  | .receipt => s1.postReceipt false
  | .coreRemote =>
    match s1.core.wait with
    | some ⟨w, .remote addr, _, _⟩ => (Ran.fault .busError (BitVec.ofNat 64 addr) s1.claimResend).retried s1.core.pc w
    | _ => s1
  | .other => s1

end Sys2Proof.Machine
end

