-- ==== Sys2Proof/Machine/BlockCommands.lean ====
section
/-! DEFINITION. The commands of the Waybill engine, the resets, debug, the rings, the MMIO window and the fabric port. Sections: R8 to R14,
R33, R252 to R299, R393 to R396, R435 to R440, R454, R455. -/

namespace Sys2Proof.Machine

/-- WBQUEUE. -/
def execWbqueue (w : Insn) (o : Outside) (s : State) : Host.Outcome State Fault Refusal :=
  .next (s.byCore (.wbqueue w o) w (fun t => t.wbqueue w o))

/-- WBABORT. -/
def execWbabort (w : Insn) (s : State) : Host.Outcome State Fault Refusal := .next (s.byCore (.wbabort w) w (fun t => t.wbabort w))

/-- WBSTAT. -/
def execWbstat (w : Insn) (s : State) : Host.Outcome State Fault Refusal := .next (s.byCore (.wbstat w) w (fun t => t.wbstat w))

/-- WB_CH_QUEUE (R289): by the host, or by the Coachman's firmware on a channel of its own (R259). -/
def execWbChQueue (ch : BitVec 6) (who : Writer) (data : Word) (o : Outside) (s : State) : Host.Outcome State Fault Refusal :=
  .next (s.run (fun t => t.hostQueue ch.toNat who (fld data 55 6 * 64) o))

/-- WB_CH_ABORT (R292): a write to WB_CH_CTRL, which R46 allows its writer. -/
def execWbChAbort (ch : BitVec 6) (who : Writer) (data : Word) (s : State) : Host.Outcome State Fault Refusal :=
  .next (s.run (fun t => if who = .coach ∨ t.mayPoke who (WB_CH_CTRL ch.toNat) then t.abortWrite ch.toNat who data else t))

/-- ATS_COMPLETION. -/
def execAtsCompletion (ch : BitVec 6) (r : AtsRsp) (s : State) : Host.Outcome State Fault Refusal := .next (s.inLeg.atsComplete ch.toNat r)

/-- ATS_TIMEOUT (R290). -/
def execAtsTimeout (ch : BitVec 6) (s : State) : Host.Outcome State Fault Refusal := .next (s.inLeg.atsFail ch.toNat 3)

/-- ATS_INVALIDATE (R291). -/
def execAtsInvalidate (pasid : BitVec 20) (va len : Word) (s : State) : Host.Outcome State Fault Refusal :=
  .next (s.run (fun t => t.invalidate (pasid.toNat, va.toNat, len.toNat)))

/-- WB_RESPONSE (R274). -/
def execWbResponse (ch : BitVec 6) (r : WbRsp) (s : State) : Host.Outcome State Fault Refusal := .next (s.inLeg.wbRsp ch.toNat r)

/-- WB_TRANSFER_COMPLETE (R275). -/
def execWbTransferComplete (ch : BitVec 6) (o : Outside) (s : State) : Host.Outcome State Fault Refusal :=
  .next (s.run (fun t => t.transferDone ch.toNat o))

/-- WB_YARD_ONLY_COMPLETE. -/
def execWbYardOnlyComplete (ch : BitVec 4) (s : State) : Host.Outcome State Fault Refusal :=
  .next ((s.inLeg.claim (.wbYardOnlyComplete ch)).yardComplete ch.toNat)

/-- POWER_ON_RESET. -/
def execPowerOnReset (pkg : BitVec 6) (blk clamp : BitVec 4) (s : State) : Host.Outcome State Fault Refusal :=
  .next (s.powerOn pkg blk clamp)

/-- BLOCK_RESET (R437). -/
def execBlockReset (s : State) : Host.Outcome State Fault Refusal := .next s.blockReset

/-- PW_RESET_BLOCK. -/
def execPwResetBlock (data : Word) (s : State) : Host.Outcome State Fault Refusal := .next (s.pwReset data)

/-- RESET_COMPLETE (R436, R437, R457): READY is set, the clamps are released, the fabric port grants its first credits; no leg
runs, and HN_CYCLE counts from READY. -/
def execResetComplete (s : State) : Host.Outcome State Fault Refusal :=
  .next (if s.phase = .run then s
    else ((({ s with phase := .run, cycle := 0, legOpen := false, opening := false } : State).setB PW_STATUS 0 true)).send .credits)

/-- PW_CORE_RUN (R438). -/
def execPwCoreRun (data : Word) (s : State) : Host.Outcome State Fault Refusal := .next (s.run (fun t => t.pwCore data))

/-- CORE_RESET_COMPLETE (R438). -/
def execCoreResetComplete (o : Outside) (s : State) : Host.Outcome State Fault Refusal := .next (s.inLeg.coreResetDone o)

/-- DB_HALTREQ (R455): a write to DB_CTRL. -/
def execDbHaltreq (data : Word) (s : State) : Host.Outcome State Fault Refusal := .next (s.run (fun t => t.dbCtrl data))

/-- DB_RESUME (R455): a write to DB_CTRL. -/
def execDbResume (data : Word) (s : State) : Host.Outcome State Fault Refusal := .next (s.run (fun t => t.dbCtrl data))

/-- DEBUG_BREAKPOINT (R455): the instruction at an enabled DB_BREAK address is the oldest unretired one. -/
def execDebugBreakpoint (i : BitVec 2) (s : State) : Host.Outcome State Fault Refusal :=
  .next (s.run (fun t => if t.core.run = .run ∧ !t.inFlight ∧ t.breakpoint = some i.toNat then t.debugHalt 2 i.toNat else t))

/-- YD_DBG_SEL. -/
def execYdDbgSel (who : Writer) (data : Word) (s : State) : Host.Outcome State Fault Refusal := .next (s.run (fun t => t.dbgSel who data))

/-- DBG_READOUT_DONE (R252). -/
def execDbgReadoutDone (s : State) : Host.Outcome State Fault Refusal := .next (s.run State.dbgDone)

/-- HWRESET. -/
def execHwreset (who : Writer) (data : Word) (s : State) : Host.Outcome State Fault Refusal := .next (s.run (fun t => t.hwReset who data))

/-- CM_CTRL_ENABLE (R393). -/
def execCmCtrlEnable (data : Word) (s : State) : Host.Outcome State Fault Refusal := .next (s.run (fun t => t.cmCtrl data))

/-- BOOKING_DOORBELL (R394); `readErr`: the ring index of a packet whose read gets an error response. -/
def execBookingDoorbell (data : Word) (readErr : Option (BitVec 32)) (s : State) : Host.Outcome State Fault Refusal :=
  .next (s.run (fun t =>
    let u := t.doorbell data
    match readErr with
    | some i => ({ u with coach := { u.coach with badRead := some i.toNat } } : State).packetRead
    | none => u))

/-- RECEIPT_POST (R395). -/
def execReceiptPost (ok : Bool) (s : State) : Host.Outcome State Fault Refusal := .next (s.run (fun t => t.postReceipt ok))

/-- NOTIFY_WRITE (R396). -/
def execNotifyWrite (ok : Bool) (s : State) : Host.Outcome State Fault Refusal := .next (s.run (fun t => t.notifyWrite ok))

/-- REGISTER_WRITE (R11): a write of 4 or 8 bytes at a window offset. -/
def execRegisterWrite (who : Writer) (off : BitVec 24) (sz8 : Bool) (data : Word) (s : State) : Host.Outcome State Fault Refusal :=
  .next (s.run (fun t => (t.windowWrite who off.toNat (if sz8 then 8 else 4) data.toNat).2))

/-- FABRIC_REQUEST_ARRIVAL. -/
def execFabricRequestArrival (q : FabReq) (s : State) : Host.Outcome State Fault Refusal := .next (s.run (fun t => t.fabArrive q))

/-- TAILBOARD_SERVE (R33). -/
def execTailboardServe (bank : BitVec 9) (s : State) : Host.Outcome State Fault Refusal := .next (s.inLeg.tailServe bank.toNat)

/-- FABRIC_TIMEOUT. -/
def execFabricTimeout (who : Requester) (s : State) : Host.Outcome State Fault Refusal := .next (s.run (fun t => t.fabTimeout who))

/-- LATE_RESPONSE (R299): discarded and counted. -/
def execLateResponse (s : State) : Host.Outcome State Fault Refusal := .next (s.run (fun t => t.count RL_CNT_LATERSP 1))

end Sys2Proof.Machine
end

