-- ==== Sys2Proof/Machine/CoreCommands.lean ====
section
/-! DEFINITION. The commands of the scalar core. Sections: R237 to R255, R319 to R391. -/

namespace Sys2Proof.Machine

/-- INTEGER_REG_REG. -/
def execIntegerRegReg (op : IntOp) (rd ra rb : BitVec 5) (s : State) : Host.Outcome State Fault Refusal :=
  .next (s.byCore (.integerRegReg op rd ra rb) (scalarWord 0x00 (.integerRegReg op rd ra rb))
    (fun t => .done (t.setG rd.toNat (intOp op (t.g ra.toNat) (t.g rb.toNat)))))

/-- INTEGER_REG_IMM. -/
def execIntegerRegImm (op : IntOp) (rd ra : BitVec 5) (imm : Word) (s : State) : Host.Outcome State Fault Refusal :=
  .next (s.byCore (.integerRegImm op rd ra imm) (scalarWord 0x01 (.integerRegImm op rd ra imm))
    (fun t => .done (t.setG rd.toNat (intOp op (t.g ra.toNat) imm))))

/-- LOAD_UPPER_IMMEDIATE: the immediate in its place, or added to the pc. -/
def execLoadUpperImmediate (pcRel : Bool) (rd : BitVec 5) (imm : Word) (s : State) : Host.Outcome State Fault Refusal :=
  .next (s.byCore (.loadUpperImmediate pcRel rd imm) (scalarWord 0x02 (.loadUpperImmediate pcRel rd imm))
    (fun t => .done (t.setG rd.toNat (if pcRel then t.core.pc + imm else imm))))

/-- SHIFT_BITFIELD. -/
def execShiftBitfield (op : ShiftOp) (rd ra : BitVec 5) (amt : ShiftAmt) (s : State) : Host.Outcome State Fault Refusal :=
  .next (s.byCore (.shiftBitfield op rd ra amt) (scalarWord 0x03 (.shiftBitfield op rd ra amt))
    (fun t => .done (t.setG rd.toNat (shiftOp op (t.g rd.toNat) (t.g ra.toNat) amt t.g))))

/-- MULTIPLY: the low 64 bits. -/
def execMultiply (rd ra rb : BitVec 5) (s : State) : Host.Outcome State Fault Refusal :=
  .next (s.byCore (.multiply rd ra rb) (scalarWord 0x04 (.multiply rd ra rb)) (fun t => .done (t.setG rd.toNat (t.g ra.toNat * t.g rb.toNat))))

/-- DIV: toward zero; −2^63 by −1 gives −2^63 (R325). -/
def execDiv (rd ra rb : BitVec 5) (s : State) : Host.Outcome State Fault Refusal :=
  .next (s.byCore (.div rd ra rb) (scalarWord 0x04 (.div rd ra rb)) (fun t => t.divide rd ra rb BitVec.sdiv))

/-- DIVU. -/
def execDivu (rd ra rb : BitVec 5) (s : State) : Host.Outcome State Fault Refusal :=
  .next (s.byCore (.divu rd ra rb) (scalarWord 0x04 (.divu rd ra rb)) (fun t => t.divide rd ra rb BitVec.udiv))

/-- REM: the sign of the dividend; −2^63 by −1 gives 0 (R325). -/
def execRem (rd ra rb : BitVec 5) (s : State) : Host.Outcome State Fault Refusal :=
  .next (s.byCore (.rem rd ra rb) (scalarWord 0x04 (.rem rd ra rb)) (fun t => t.divide rd ra rb BitVec.srem))

/-- REMU. -/
def execRemu (rd ra rb : BitVec 5) (s : State) : Host.Outcome State Fault Refusal :=
  .next (s.byCore (.remu rd ra rb) (scalarWord 0x04 (.remu rd ra rb)) (fun t => t.divide rd ra rb BitVec.umod))

/-- CONDITIONAL_SELECT: ra if rc is not zero, else rb. -/
def execConditionalSelect (rd ra rb rc : BitVec 5) (s : State) : Host.Outcome State Fault Refusal :=
  .next (s.byCore (.conditionalSelect rd ra rb rc) (scalarWord 0x05 (.conditionalSelect rd ra rb rc))
    (fun t => .done (t.setG rd.toNat (if t.g rc.toNat ≠ 0 then t.g ra.toNat else t.g rb.toNat))))

/-- LOAD. -/
def execLoadMem (sz : BitVec 2) (signed : Bool) (rd ra : BitVec 5) (disp : Word) (o : Outside) (s : State) :
    Host.Outcome State Fault Refusal :=
  .next (s.byCore (.loadMem sz signed rd ra disp o) (scalarWord 0x08 (.loadMem sz signed rd ra disp ⟨[], []⟩)) (fun t => t.load sz signed rd ra disp o))

/-- STORE. -/
def execStoreMem (sz : BitVec 2) (rs ra : BitVec 5) (disp : Word) (bg : Bool) (o : Outside) (s : State) :
    Host.Outcome State Fault Refusal :=
  .next (s.byCore (.storeMem sz rs ra disp bg o) (scalarWord 0x09 (.storeMem sz rs ra disp false ⟨[], []⟩))
    (fun t => t.store sz rs ra disp bg o))

/-- CONDITIONAL_BRANCH: to pc + disp. -/
def execConditionalBranch (c : Cond) (ra rb : BitVec 5) (disp : Word) (s : State) : Host.Outcome State Fault Refusal :=
  .next (s.byCore (.conditionalBranch c ra rb disp) (scalarWord 0x0C (.conditionalBranch c ra rb disp)) (fun t =>
    if condMet c (t.g ra.toNat) (t.g rb.toNat) then .goto t (t.core.pc + disp) else .done t))

/-- JUMP_AND_LINK: rd receives the address after the jump. -/
def execJumpAndLink (rd : BitVec 5) (disp : Word) (s : State) : Host.Outcome State Fault Refusal :=
  .next (s.byCore (.jumpAndLink rd disp) (scalarWord 0x0D (.jumpAndLink rd disp)) (fun t => .goto (t.setG rd.toNat (t.core.pc + 4)) (t.core.pc + disp)))

/-- JUMP_AND_LINK_REGISTER: to ra + disp with bits [1:0] cleared (log 6). -/
def execJumpAndLinkRegister (rd ra : BitVec 5) (disp : Word) (s : State) : Host.Outcome State Fault Refusal :=
  .next (s.byCore (.jumpAndLinkRegister rd ra disp) (scalarWord 0x0E (.jumpAndLinkRegister rd ra disp)) (fun t =>
    .goto (t.setG rd.toNat (t.core.pc + 4)) ((t.g ra.toNat + disp) &&& ~~~(3 : Word))))

/-- SCALAR_FP: its flags are sticky in SC_FFLAGS (R323, R367). -/
def execScalarFp (op : FpOp) (dbl : Bool) (rd ra rb rc : BitVec 5) (s : State) : Host.Outcome State Fault Refusal :=
  .next (s.byCore (.scalarFp op dbl rd ra rb rc) (scalarWord 0x10 (.scalarFp op dbl rd ra rb rc)) (fun t =>
    let r := fpOp op dbl (t.g ra.toNat) (t.g rb.toNat) (t.g rc.toNat)
    .done ((t.setG rd.toNat r.1).orBits SC_FFLAGS (BitVec.ofNat 64 r.2.toNat))))

/-- RETX. -/
def execRetx (w : Insn) (o : Outside) (s : State) : Host.Outcome State Fault Refusal := .next (s.byCore (.retx w o) w (fun t => t.retx w o))

/-- SVC. -/
def execSvc (w : Insn) (s : State) : Host.Outcome State Fault Refusal := .next (s.byCore (.svc w) w (fun t => t.svc w))

/-- IFLUSH. -/
def execIflush (w : Insn) (o : Outside) (s : State) : Host.Outcome State Fault Refusal := .next (s.byCore (.iflush w o) w (fun t => t.iflush w o))

/-- FENCE. -/
def execFence (w : Insn) (o : Outside) (s : State) : Host.Outcome State Fault Refusal := .next (s.byCore (.fence w o) w (fun t => t.fence w o))

/-- WAITI. -/
def execWaiti (w : Insn) (s : State) : Host.Outcome State Fault Refusal := .next (s.byCore (.waiti w) w (fun t => t.waiti w))

/-- MFS. -/
def execMfs (w : Insn) (s : State) : Host.Outcome State Fault Refusal := .next (s.byCore (.mfs w) w (fun t => t.mfs w))

/-- MTS. -/
def execMts (w : Insn) (o : Outside) (s : State) : Host.Outcome State Fault Refusal := .next (s.byCore (.mts w o) w (fun t => t.mts w o))

/-- CMO. -/
def execCmo (w : Insn) (o : Outside) (s : State) : Host.Outcome State Fault Refusal := .next (s.byCore (.cmo w o) w (fun t => t.cmo w o))

/-- SPINV. -/
def execSpinv (w : Insn) (o : Outside) (s : State) : Host.Outcome State Fault Refusal := .next (s.byCore (.spinv w o) w (fun t => t.spinv w o))

/-- SPAN_WALK for an access of the instruction w, whose permission is checked when the access proceeds. -/
def execSpanWalk (va : Word) (w : Insn) (o : Outside) (s : State) : Host.Outcome State Fault Refusal :=
  .next (s.byCore (.spanWalk va w o) w (fun t => t.walkFor va o))

/-- STORE_BUFFER_DRAIN (R328). -/
def execStoreBufferDrain (o : Outside) (s : State) : Host.Outcome State Fault Refusal := .next (s.inLeg.drainHead o)

/-- L2_FILL. -/
def execL2Fill (line : PAddr) (code : Bool) (o : Outside) (s : State) : Host.Outcome State Fault Refusal :=
  .next (s.inLeg.fillLine (lineOf line.toNat) code o)

/-- INTERRUPT_RECOGNITION (R337): the core runs or waits, and an interrupt is eligible. -/
def execInterruptRecognition (s : State) : Host.Outcome State Fault Refusal :=
  .next (s.run (fun t => if t.coreLive then (match t.chosenIrq with | some c => t.takeIrq c | none => t) else t))

/-- SYNC_FAULT_ENTRY (R351): the pc of the frame is that of the faulting instruction, or of the one after an SVC. A word whose major
opcode is unassigned raises ILLEGAL_OP, whatever else is said of it (R49, R323). -/
def execSyncFaultEntry (c : Cause) (faddr : Word) (w : Insn) (s : State) : Host.Outcome State Fault Refusal :=
  .next (s.byCore (.syncFaultEntry c faddr w) w (fun t =>
    let (c1, fa) := if opcodeAssigned w then (c, faddr) else (.illegalOp, 0)
    .hold (t.syncFault c1 fa (if c1 = .service then t.core.pc + 4 else t.core.pc) w)))

/-- TSB_SAVE_COMPLETE (R363). -/
def execTsbSaveComplete (o : Outside) (s : State) : Host.Outcome State Fault Refusal := .next (s.inLeg.finishSaves o)

/-- TIMER_EXPIRY (R357): YD_TIME reaches SC_TCMP. -/
def execTimerExpiry (s : State) : Host.Outcome State Fault Refusal :=
  .next (s.run (fun t => t.advanceTo (t.cycOf (t.rd SC_TCMP).toNat)))

/-- YPUT. -/
def execYput (w : Insn) (o : Outside) (s : State) : Host.Outcome State Fault Refusal :=
  .next (s.byCore (.yput w o) w (fun t => t.tagInsn w 0x30 0 o))

/-- YTAKE. -/
def execYtake (w : Insn) (o : Outside) (s : State) : Host.Outcome State Fault Refusal :=
  .next (s.byCore (.ytake w o) w (fun t => t.tagInsn w 0x30 1 o))

/-- YPEEK. -/
def execYpeek (w : Insn) (o : Outside) (s : State) : Host.Outcome State Fault Refusal :=
  .next (s.byCore (.ypeek w o) w (fun t => t.tagInsn w 0x30 2 o))

/-- YFILL. -/
def execYfill (w : Insn) (o : Outside) (s : State) : Host.Outcome State Fault Refusal :=
  .next (s.byCore (.yfill w o) w (fun t => t.tagInsn w 0x31 0 o))

/-- YEMPTY. -/
def execYempty (w : Insn) (o : Outside) (s : State) : Host.Outcome State Fault Refusal :=
  .next (s.byCore (.yempty w o) w (fun t => t.tagInsn w 0x31 1 o))

/-- YTAG. -/
def execYtag (w : Insn) (o : Outside) (s : State) : Host.Outcome State Fault Refusal :=
  .next (s.byCore (.ytag w o) w (fun t => t.tagInsn w 0x31 2 o))

/-- YINC. -/
def execYinc (w : Insn) (o : Outside) (s : State) : Host.Outcome State Fault Refusal := .next (s.byCore (.yinc w o) w (fun t => t.yincdec w 0 o))

/-- YDEC. -/
def execYdec (w : Insn) (o : Outside) (s : State) : Host.Outcome State Fault Refusal := .next (s.byCore (.ydec w o) w (fun t => t.yincdec w 1 o))

/-- YWAIT. -/
def execYwait (w : Insn) (o : Outside) (s : State) : Host.Outcome State Fault Refusal :=
  .next (s.byCore (.ywait w o) w (fun t => t.ctrCheck w 2 ((t.drainAll o).ywaitAt w false)))

/-- YCTR. -/
def execYctr (w : Insn) (o : Outside) (s : State) : Host.Outcome State Fault Refusal :=
  .next (s.byCore (.yctr w o) w (fun t => t.ctrCheck w 3 (.done ((t.drainAll o).setG (fGd w) (BitVec.ofNat 64 (t.ctr (fCtr w)))))))

/-- MBSEND. -/
def execMbsend (w : Insn) (o : Outside) (s : State) : Host.Outcome State Fault Refusal := .next (s.byCore (.mbsend w o) w (fun t => t.mbInsn w 0 o))

/-- MBRECV. -/
def execMbrecv (w : Insn) (o : Outside) (s : State) : Host.Outcome State Fault Refusal := .next (s.byCore (.mbrecv w o) w (fun t => t.mbInsn w 1 o))

/-- WAKE_ARRIVAL (R247). -/
def execWakeArrival (id : BitVec 8) (s : State) : Host.Outcome State Fault Refusal :=
  .next ((s.inLeg.claim (.wakeArrival id)).wakeArrive id.toNat)

/-- BERTH_RESEND (R247). -/
def execBerthResend (id : BitVec 8) (s : State) : Host.Outcome State Fault Refusal :=
  .next ((s.inLeg.claim (.berthResend id)).berthSend id.toNat)

/-- POLL_RETRY (R250). -/
def execPollRetry (id : BitVec 8) (s : State) : Host.Outcome State Fault Refusal :=
  .next (let s1 := s.inLeg.claim (.pollRetry id); if s1.polls id.toNat then s1.resend id.toNat true else s1)

/-- REMOTE_RESEND (R241). -/
def execRemoteResend (o : Outside) (s : State) : Host.Outcome State Fault Refusal := .next (s.inLeg.claimResend.remoteAgain o)

end Sys2Proof.Machine
end

