-- ==== Sys2Proof/Machine/Harness.lean ====
section
/-! DEFINITION. The harness: staging, reading, and the check of a commit.
Sections: R79, R80, R87, R113, R232, R248, R259, R317, R407, R414 to R418, R427, R428, R434, R439. -/

namespace Sys2Proof.Machine

/-! ## Staging (R414, R415) -/

/-- Setting i of a packet: its OFFSET's bits [23:0], its VALUE. -/
def setOff (p : Packet) (i : Nat) : Nat := pNum p (16 + 12 * i) 3
def setVal (p : Packet) (i : Nat) : Word := BitVec.ofNat 64 (pNum p (20 + 12 * i) 8)
/-- The number of settings. -/
def setCount (p : Packet) : Nat := pLen p / 12

/-- The bits of a staged value that are neither a setting nor set by hardware; only PW_MARGIN.M is ignored (R414). -/
def stageReserved (o : Nat) : Word := ~~~(harnessMask o ||| (if o = PW_MARGIN then maskOf 7 0 else 0))

/-- The faults of setting i. -/
def settingFaults (p : Packet) (i : Nat) : List PFault :=
  let o := setOff p i
  let a := 16 + 12 * i
  let known := decide (harnessMask o ≠ 0)
  fieldCheck known a ++ zeroed p (a + 3) (a + 4) ++
    (if known then
      ((List.range 8).filter (fun b => decide (fld (setVal p i &&& stageReserved o) (8 * b + 7) (8 * b) ≠ 0))).map (fun b => (a + 4 + b, 0))
     else [])

/-- The checks of the settings of a packet. -/
def setFaults (p : Packet) : List PFault := (List.range (min 4 (setCount p))).flatMap (settingFaults p)

/-- A register is staged; the later value stays. -/
def stageIn (o : Nat) (v : Word) (l : List (Nat × Word)) : List (Nat × Word) :=
  l.filter (fun q => decide (q.1 < o)) ++ (o, v) :: l.filter (fun q => decide (o < q.1))

/-- The settings of a packet are staged. -/
def State.stageAll (s : State) (p : Packet) : State :=
  let l := (List.range (setCount p)).foldl (fun l i => stageIn (setOff p i) (setVal p i &&& harnessMask (setOff p i)) l) s.coach.staged
  { s with coach := { s.coach with staged := l } }

/-- HARNESS_SET. -/
def execHarnessSet (p : Packet) (s : State) : Host.Outcome State Fault Refusal :=
  .next (s.booking 0x20 p (setFaults p) (fun t =>
    let u := t.stageAll p
    u.reply p 0 0 (BitVec.ofNat 64 u.coach.staged.length) 0))

/-- HARNESS_DISCARD. -/
def execHarnessDiscard (p : Packet) (s : State) : Host.Outcome State Fault Refusal :=
  .next (s.booking 0x22 p [] (fun t => ({ t with coach := { t.coach with staged := [] } } : State).replyOk p))

/-- The checks of HARNESS_READ's OFFSET, WHICH and reserved bytes. -/
def readFaults (p : Packet) : List PFault :=
  fieldCheck (decide (harnessMask (setOff p 0) ≠ 0)) 16 ++ zeroed p 19 20 ++ fieldCheck (decide (pNum p 20 1 ≤ 1)) 20 ++ zeroed p 21 24

/-- HARNESS_READ: the register in force, or as the staged harness has it. -/
def execHarnessRead (p : Packet) (s : State) : Host.Outcome State Fault Refusal :=
  .next (s.booking 0x23 p (readFaults p) (fun t =>
    let v := if pNum p 20 1 = 1 then t.stagedView else t
    t.reply p 0 0 (v.rd (setOff p 0)) 0))

/-- HARNESS_COMMIT: the check proceeds in the background. -/
def execHarnessCommit (p : Packet) (s : State) : Host.Outcome State Fault Refusal :=
  .next (s.booking 0x21 p [] (fun t => { t with coach := { t.coach with commit := some ⟨pSeq p, false, none, none⟩ } }))

/-! ## The rules of a commit (R416)

In each, `s` is the block with the harness in force and `v` the block with the harness to be checked in its registers. A rule gives
the offsets of the registers that break it. -/

/-- A register offset where a rule is broken. -/
def breaks (bad : Bool) (o : Nat) : List Nat := if bad then [o] else []
/-- Registers of an array where a rule is broken. -/
def breaksIn (n : Nat) (o : Nat → Nat) (bad : Nat → Bool) : List Nat := ((List.range n).filter bad).map o

/-- The fields MODE of MX_SUMMODE, POLICY of HN_GUARD_POLICY and ID of YD_BERTHSET. -/
def State.anyMode (v : State) (p : Nat → Nat → Bool) : Bool := (List.range 16).any (fun a => p a (v.sumMode a))
def State.berthIds (v : State) : List Nat := (List.range 8).map (fun k => v.f YD_BERTHSET (8 * k + 7) (8 * k))

/-- Ids of requesters that wait (R245). -/
def canWait (id : Nat) : Bool := id = idCore || (decide (idChan 0 ≤ id) && decide (id < idChan 56)) || id = idCoach

/-- 0x01: field values. -/
def rule1 (v : State) : List Nat :=
  breaks (decide (v.P < 175000) || decide (87500000 < v.P)) HN_PERIOD ++
  breaks (decide (v.M < 2048) || decide (v.P < v.M + 65)) HN_MARGIN ++
  breaks ((List.range 7).any (fun i => decide (v.f HN_GUARD_POLICY (2 * i + 3) (2 * i + 2) = 3))) HN_GUARD_POLICY ++
  breaks (decide (v.f MX_MODE 1 0 = 3)) MX_MODE ++ breaks (v.anyMode (fun _ m => decide (m = 3))) MX_SUMMODE ++
  breaksIn 256 YD_OWNER (fun g => decide (4 < v.f (YD_OWNER g) 2 0)) ++ breaksIn 56 WB_CH_CFG (fun c => decide (v.f (WB_CH_CFG c) 1 0 = 3))

/-- 0x02: features. -/
def rule2 (v : State) : List Nat :=
  breaks ((v.b HN_CTRL 1 || v.b HN_CTRL 2) && !v.feature featTimetable) HN_CTRL ++
  breaksIn 16 HN_MAIL_DEADLINE (fun k => v.mailEn k && !v.feature featMail) ++
  breaks (v.anyMode (fun _ m => (decide (m = 1) && !v.feature featComp) || (decide (m = 2) && !v.feature featStoch))) MX_SUMMODE ++
  breaks (v.berthIds.any (fun i => decide (i ≠ 0xFF)) && !v.feature featBerths) YD_BERTHSET ++
  breaksIn 8 RL_LANE_CFG (fun l => v.b (RL_LANE_CFG l) 63 && !v.feature featRelay)

/-- 0x03: compensated mode on an odd field; an id that cannot wait. -/
def rule3 (v : State) : List Nat :=
  breaks (v.anyMode (fun a m => decide (m = 1) && decide (a % 2 = 1))) MX_SUMMODE ++
  breaks (v.berthIds.any (fun i => decide (i ≠ 0xFF) && !canWait i)) YD_BERTHSET

/-- A package-local address that R41 maps. -/
def localMapped (l : Nat) : Bool :=
  decide (l < 0x18000000000) ||
    (decide (0x100000000000 ≤ l) && decide (l < 0x101000000000) && decide ((l - 0x100000000000) % 0x100000000 < yardBytes)) ||
    (decide (0x200000000000 ≤ l) && decide (l < 0x200010000000)) || (decide (0x300000000000 ≤ l) && decide (l < 0x400000000000))

/-- A window of R317 may not lie here. -/
def State.windowBad (v : State) (a : Nat) : Bool :=
  match v.place a with
  | .package => !localMapped (localOf a)
  | .unmapped => true
  | .yard _ => true
  | .window _ => true
  | _ => false

/-- 0x04: the mail windows, and the buffers and tag words of enabled slots (R87, R317). -/
def rule4 (v : State) : List Nat :=
  let buf := fun (w : Word) => v.owned ttWrites (bufOff w) (64 * bufLen w)
  breaksIn 16 HN_MAIL_BUF (fun k => v.mailEn k && !buf (v.rd (HN_MAIL_BUF k))) ++
  breaksIn 16 HN_MAIL_SUB (fun k => v.mailEn k && !buf (v.rd (HN_MAIL_SUB k))) ++
  breaksIn 16 HN_MAIL_TAGW (fun k => v.mailEn k && !v.owned ttWrites (v.mailTag k) 8) ++
  breaksIn 16 RL_MAIL_BASE (fun k => v.mailEn k &&
    (let a := v.mailBase k
     decide (2 ^ 56 ≤ a + 0x10007) || v.windowBad a || v.windowBad (a + 0x10007)))

/-- 0x05: CLIENT, UPL or PRIO of a busy channel (R259). -/
def rule5 (s v : State) : List Nat :=
  (breaksIn 40 (fun i => WB_CH_CFG (i + 16)) (fun i =>
    let h := s.chan (i + 16)
    (h.active.isSome || h.shadow.isSome) && decide ((v.rd (WB_CH_CFG (i + 16)) ^^^ s.rd (WB_CH_CFG (i + 16))) &&& 0x37 ≠ 0)))

/-- The timetable runs, or runs out (R80, R427). -/
def State.ttLive (s : State) : Bool := s.tt = 1 || s.tt = 2 || s.tt = 4

/-- The admission that a harness would start (R79). -/
def State.wouldStart (v : State) : Option Admission :=
  match v.coach.adm with
  | some a => if v.b HN_CTRL 2 && decide (v.f HN_TT_BASE 28 6 * 64 = a.img.off) then some a else none
  | none => none

/-- The registers of the first case of R80. -/
def watched : List (Nat × Word) :=
  [(HN_PERIOD, maskOf 63 0), (HN_MARGIN, maskOf 63 0), (HN_CTRL, maskOf 11 10)] ++
  (List.range 16).flatMap (fun k => [HN_MAIL_DEADLINE k, HN_MAIL_BUF k, HN_MAIL_SUB k, HN_MAIL_TAGW k].map (fun o => (o, maskOf 63 0))) ++
  (List.range 256).map (fun g => (YD_OWNER g, maskOf 63 0))

/-- 0x06: changes while a timetable runs (R80). -/
def rule6 (s v : State) : List Nat :=
  let off := fun (i : Nat) => s.b HN_CTRL i && !v.b HN_CTRL i
  let changed : List Nat := (watched.filter (fun p => decide ((s.rd p.1 ^^^ v.rd p.1) &&& p.2 ≠ 0))).map (·.1)
  let image := match v.wouldStart with
    | some a => some a.img
    | none => s.seq.image
  let fails : Bool := match image with
    | some im => (v.admits im.off).isSome
    | none => false
  breaks (s.ttLive && (off 1 || off 2)) HN_CTRL ++
    (if (decide (s.tt = 1) || decide (s.tt = 2)) && fails then changed else [])

/-- 0x07: a timetable is named without an admission, or with a void one or one against another harness (R79). -/
def rule7 (s v : State) : List Nat :=
  let names := v.b HN_CTRL 2 && (!s.b HN_CTRL 2 || decide (s.rd HN_TT_BASE ≠ v.rd HN_TT_BASE))
  let o := if s.b HN_CTRL 2 then HN_TT_BASE else HN_CTRL
  match v.wouldStart with
  | some a => breaks (v.voided a).void o
  | none => breaks names o

/-- 0x08: the power rules (R427, R434). -/
def rule8 (s v : State) : List Nat :=
  let cap := v.f PW_CAP 10 0
  breaks (decide (cap < 160) || decide (1200 < cap)) PW_CAP ++
  breaks (v.b PW_CLKCTL 0 && ((!s.b PW_CLKCTL 0 && s.b HN_TT_STATE 16) || v.wouldStart.isSome || s.ttLive)) PW_CLKCTL

/-- The first rule that a harness breaks, with the first register concerned. -/
def checkHarness (s v : State) : Option (Nat × Nat) :=
  ([(1, rule1 v), (2, rule2 v), (3, rule3 v), (4, rule4 v), (5, rule5 s v), (6, rule6 s v), (7, rule7 s v), (8, rule8 s v)].filterMap
    (fun q => (least q.2).map (fun o => (q.1, o)))).head?

/-- The check of a commit ends (R416, R417, R439): the harness is pending, or the commit is refused. One with nothing staged passes every
check (R418, log 22). -/
def State.checkDone (s0 : State) : State :=
  match s0.coach.commit with
  | some ⟨q, soft, none, none⟩ =>
    let s := s0.inLeg
    let v := if soft then s.harnessReset else s.stagedView
    match (if !soft && s.coach.staged.isEmpty then none else checkHarness s v) with
    | some (code, o) =>
      ({ s with coach := { s.coach with commit := none } } : State).answerTo (if soft then 0x0005 else 0x0021) q 2 true
        (BitVec.ofNat 64 (code + o * 2 ^ 8)) 0 0
    | none =>
      let pend : Commit := ⟨q, soft, some (if soft then [] else s.coach.staged), none⟩
      if soft then
        let s1 := s.withdraw
        { s1 with coach := { s1.coach with commit := some pend, staged := [] } }
      else { s with coach := { s.coach with commit := some pend } }
  | _ => s0

/-- HARNESS_COMMIT_CHECK_DONE (R416). -/
def execHarnessCommitCheckDone (s : State) : Host.Outcome State Fault Refusal := .next (s.run State.checkDone)

end Sys2Proof.Machine
end

