-- ==== Sys2Proof/Machine/Health.lean ====
section
/-! DEFINITION. The Ostler's events: the end of a test, the end of a rescue, strikes, and REINSTATE.
Sections: R236, R251, R410, R411, R445 to R451. -/

namespace Sys2Proof.Machine

/-- How long the test of a unit takes in ACLK (R446). -/
def testLen (u : UnitId) : Nat :=
  match fld u 15 8 with
  | 1 => 2048
  | 4 => 1024
  | 5 => 4096
  | 6 => 512
  | 7 => 8192
  | 8 => 16384
  | _ => 98304

/-- A deferred test runs only where no timetable is admitted, or in a window that covers its unit and holds the whole test: the ACLK
of its completion and those before it (R411, R446). -/
def State.mayTest (s : State) (j : TestJob) : Bool :=
  !j.waits || s.noTimetable ||
    (match unitsBit j.unit with
     | some b => s.seq.windows.any (fun w =>
         decide (w.1 + testLen j.unit ≤ s.cycle + 1) && decide (s.cycle ≤ w.2.1) && decide (w.2.2 / 2 ^ b % 2 = 1))
     | none => true)

/-- The test of an active Yard group is a scrub that reads every word (R445). -/
def State.scrub (s : State) (u : UnitId) : State :=
  if (fld u 15 8 = 2 ∨ fld u 15 8 = 3) ∧ s.unitActive u then s.seeRange (s.groupOfUnit u * groupBytes) groupBytes else s

/-- An idle carriage's entries and an idle group's words are zeroed by a test; neither holds anything software can read. -/
def State.testEnds (s : State) (u : UnitId) (pass : Bool) : State :=
  match s.coach.test with
  | none => s
  | some j =>
    if j.unit ≠ u ∨ !s.mayTest j then s
    else
      let fail := if pass then 0 else 1
      let s1 : State := ({ s with coach := { s.coach with test := none } } : State).scrub u
      let s2 := s1.wr HL_TEST (BitVec.ofNat 64 (u.toNat * 2 ^ 32 + (s.leg.toNat % 2 ^ 31) * 2 + fail))
      let s3 := match unitDomain u with
        | some d => if pass then (if s2.unitBit HL_FENCE d then s2.setUnit HL_PASS d true else s2) else s2.declareDead u 1
        | none => s2
      s3.answerTo 0x0040 j.seq 0 true 0 (BitVec.ofNat 64 fail) (BitVec.ofNat 64 s.leg.toNat)

/-- UNIT_TEST_COMPLETE (R446). -/
def execUnitTestComplete (u : UnitId) (pass : Bool) (s : State) : Host.Outcome State Fault Refusal :=
  .next (s.run (fun t => t.testEnds u pass))

/-- The rescue copy of a group ends (R251): it has read every word, and its substitution may follow. -/
def State.rescueEnds (s : State) (g : Nat) : State :=
  if inSet g s.ostler.rescued ∨ !s.ostler.todo.any (fun u => (decide (fld u 15 8 = 2) || decide (fld u 15 8 = 3)) && decide (s.groupOfUnit u = g)) ∨
      inSet g s.ostler.mute then s
  else
    let s1 := s.seeRange (g * groupBytes) groupBytes
    { s1 with ostler := { s1.ostler with rescued := setIn g true s1.ostler.rescued } }

/-- GROUP_RESCUE (R251). -/
def execGroupRescue (g : BitVec 8) (s : State) : Host.Outcome State Fault Refusal :=
  .next ((s.claim (.groupRescue g)).up (fun t => t.rescueEnds g.toNat))

/-- A fenced unit drives an output, which the fence discards (R449). -/
def State.strike (s : State) (u : UnitId) : State :=
  match unitDomain u with
  | none => s
  | some d =>
    if !s.unitBit HL_FENCE d then s
    else
      let s1 := (s.count HL_FENCE_STRIKE 1).wr HL_STRIKE_LAST (BitVec.ofNat 64 u.toNat)
      if s.ostler.struck.contains u then s1
      else (({ s1 with ostler := { s1.ostler with struck := s1.ostler.struck ++ [u] } } : State).setB HL_ALERT 1 true).ostlerEvent 3 u 0 0

/-- FENCE_STRIKE (R449). -/
def execFenceStrike (u : UnitId) (s : State) : Host.Outcome State Fault Refusal := .next (s.run (fun t => t.strike u))

/-- The checks of REINSTATE's UNIT and reserved bytes (R407, R410). -/
def unitFaults (p : Packet) : List PFault := fieldCheck (unitDomain (pUnit p)).isSome 16 ++ zeroed p 18 24

/-- A fenced unit that has passed a test becomes a spare (R411, R450). -/
def State.reinstate (s : State) (p : Packet) : State :=
  match unitDomain (pUnit p) with
  | none => s
  | some d =>
    if !s.unitBit HL_FENCE d then s.reject p (16, 1)
    else if !s.unitBit HL_PASS d then s.reply p 9 0 0 0
    else
      (((((s.setUnit HL_FENCE d false).setUnit HL_DEAD d false).setUnit HL_PASS d false).setUnit HL_REINST d true).ostlerEvent 5
        (pUnit p) 0 0).replyOk p

/-- REINSTATE. -/
def execReinstate (p : Packet) (s : State) : Host.Outcome State Fault Refusal :=
  .next (s.booking 0x41 p (unitFaults p) (fun t => t.reinstate p))

end Sys2Proof.Machine
end

