-- ==== Sys2Proof/Machine/Power.lean ====
section
/-! DEFINITION. Power: telemetry, leg energy, window power, the power events. Sections: R429 to R432, R452. -/

namespace Sys2Proof.Machine

/-- A power event (R432): its bit of PW_EVENT, the core's emergency, the alert, the receipt. -/
def State.powerEvent (s : State) (bit_ ev : Nat) : State :=
  (((s.setB PW_EVENT bit_ true).setB SC_IPEND 41 true).setB HL_ALERT 2 true).ostlerEvent ev 0 0 0

/-- A telemetry sample of so many µJ arrives (R429): it counts in the leg in which it arrives, and telemetry is present. -/
def State.energySample (s : State) (uj : Nat) : State :=
  let s1 := s.setB PW_STATUS 1 true
  { s1 with power := { s1.power with uj := s1.power.uj + (if s1.legOpen then uj else 0), quiet := false } }

/-- ENERGY_SAMPLE. -/
def execEnergySample (uj : BitVec 32) (s : State) : Host.Outcome State Fault Refusal := .next (s.run (fun t => t.energySample uj.toNat))

/-- The energy of the oldest leg that has ended is written, and its excess joins those of the latest 16 (R429, R430). -/
def State.legEnergy (s : State) : State :=
  match s.power.ended with
  | [] => s
  | (leg, uj, declared) :: rest =>
    let h := s.power.hist ++ [uj - declared]
    let s1 : State := { s with power := { s.power with ended := rest, hist := h.drop (h.length - 16) } }
    (s1.setF PW_ENERGY 63 32 leg).setF PW_ENERGY 31 0 uj

/-- LEG_ENERGY_WRITE. -/
def execLegEnergyWrite (s : State) : Host.Outcome State Fault Refusal := .next (s.run State.legEnergy)

/-- No sample has come for 65,536 MCLK (R429, R432): the event is raised once until a sample comes; m is 255 and base mode runs. -/
def State.telemetryLost (s : State) : State :=
  if s.power.quiet then s
  else
    let s1 := ((s.setB PW_STATUS 1 false).setB PW_STATUS 2 false).setF PW_MARGIN 7 0 255
    ({ s1 with power := { s1.power with quiet := true } } : State).powerEvent 1 7

/-- TELEMETRY_LOST. -/
def execTelemetryLost (s : State) : Host.Outcome State Fault Refusal := .next (s.run State.telemetryLost)

/-- A waiter is in berth (R248): wired, gated and not yet woken. -/
def State.atBerth (s : State) (id : Nat) : Bool :=
  s.inBerth id && !s.polls id && !inSet id s.yard.ungating && s.yard.room.any (fun e => e.wired.any (fun p => decide (p.1 = id)))

/-- The budgets lent by waiters in berth, in mW (R431). -/
def State.lent (s : State) : Nat :=
  (if s.core.run = .wait ∧ s.atBerth idCore then 6000 else 0) +
    500 * ((List.range 56).filter (fun c => s.atBerth (idChan c))).length + (if s.atBerth idCoach then 250 else 0)

/-- A window of 1,024 MCLK ends with a power of so many mW (R431, R432): the mode of the next window, the windows run in base mode,
and OVER_CAP at the fourth base window in a row above the cap. -/
def State.windowEnd (s : State) (mw : Nat) : State :=
  let cap := s.f PW_CAP 10 0 * 125
  let base := !s.b PW_STATUS 2
  let s1 := if base then s.count PW_CNT_BASE 1 else s
  let n := if cap < mw then (if base then s.power.runs + 1 else 0) else 0
  let s2 : State := { s1 with power := { s1.power with runs := n } }
  let s3 := if n = 4 then s2.powerEvent 0 6 else s2
  s3.setB PW_STATUS 2 (s3.b PW_STATUS 1 && decide (mw + (20000 - s3.lent) ≤ cap))

/-- POWER_WINDOW_END. -/
def execPowerWindowEnd (mw : BitVec 32) (s : State) : Host.Outcome State Fault Refusal := .next (s.run (fun t => t.windowEnd mw.toNat))

end Sys2Proof.Machine
end

