-- ==== Sys2Proof/Machine/SlotCommands.lean ====
section
/-! DEFINITION. The commands of slots, mail draws and relay lanes. Sections: R22, R62 to R74, R88, R307 to R316. -/

namespace Sys2Proof.Machine

/-- MX_ISSUE (R68). -/
def execMxIssue (a : SlotAt) (x : Opnd) (s : State) : Host.Outcome State Fault Refusal :=
  .next (s.inLeg.embed a x 0 (fun t => t.mxBusy || t.inspecting 0) State.mxBody)

/-- TF_ISSUE (R68). -/
def execTfIssue (a : SlotAt) (x : Opnd) (s : State) : Host.Outcome State Fault Refusal :=
  .next (s.inLeg.embed a x 1 (fun t => t.tfBusy || t.inspecting 1 || t.inspecting 2) State.tfBody)

/-- VX_ISSUE (R68). -/
def execVxIssue (a : SlotAt) (x : Opnd) (s : State) : Host.Outcome State Fault Refusal :=
  .next (s.inLeg.embed a x 2 (fun t => t.vxBusy || t.inspecting 3) State.vxBody)

/-- MX_COMMIT. -/
def execMxCommit (s : State) : Host.Outcome State Fault Refusal := .next (s.inLeg.claim .mxCommit).mxCommitNow

/-- VX_COMMIT. -/
def execVxCommit (s : State) : Host.Outcome State Fault Refusal := .next (s.inLeg.claim .vxCommit).vxCommitNow

/-- WB_STAGE (R280). -/
def execWbStage (a : SlotAt) (x : Opnd) (s : State) : Host.Outcome State Fault Refusal :=
  .next (s.inLeg.slot a 3 (fun t => t.wbBusy (opCh x)) (fun t =>
    let off := fld x 60 32
    if stageBad x then t.slotLost a 3 (some 1)
    else if !t.owned ttWrites off 64 then t.slotLost a 3 none
    else ((t.unstage (opCh x)).wordJob a 3 (.stage (opCh x) off) 0).wbOccupy (opCh x) 1))

/-- WB_FIRE (R69, R281): the station is occupied to t + N + 16, or to P − M − 1. -/
def execWbFire (a : SlotAt) (x : Opnd) (s : State) : Host.Outcome State Fault Refusal :=
  .next (s.inLeg.slot a 3 (fun t => t.wbBusy (opCh x)) (fun t =>
    let c := opCh x
    if fld x 95 4 ≠ 0 then t.slotLost a 3 (some 1)
    else
      match (t.endBefore c).fire c a.lane.toNat a.idx.toNat with
      | none => t.slotLost a 3 none
      | some u =>
        match (u.chan c).active with
        | some d => u.wbOccupy c (if (u.yardOnly d).isSome then d.len / 64 + 17 else u.P - u.M - u.cycle)
        | none => u))

/-- RL_SEND (R308). -/
def execRlSend (a : SlotAt) (x : Opnd) (s : State) : Host.Outcome State Fault Refusal :=
  .next (s.inLeg.slot a 4 (fun t => t.rlBusy (fld x 2 0)) (fun t =>
    let src := fld x 60 32
    if sendBad x then t.slotLost a 4 (some 1)
    else if !t.owned ttReads src 256 then t.slotLost a 4 none
    else
      let u : State := { t with relay := { t.relay with tx := t.relay.tx ++ [⟨fld x 2 0, t.time.toNat, none, false⟩] } }
      u.startJob (opSite a x) 4 (opInsn x) 0 ((List.range 4).map (fun i => (1 + i, .load i (src + 64 * i) 64))) (fun j => j)))

/-- YS_TAKE: SRC is copied to DST and set empty. -/
def execYsTake (a : SlotAt) (x : Opnd) (s : State) : Host.Outcome State Fault Refusal := .next (s.inLeg.ysPair a x 1)

/-- YS_PEEK: SRC is copied to DST and stays full. -/
def execYsPeek (a : SlotAt) (x : Opnd) (s : State) : Host.Outcome State Fault Refusal := .next (s.inLeg.ysPair a x 2)

/-- YS_PUT: SRC, whatever its tag, is copied to DST where the copy finds it empty. -/
def execYsPut (a : SlotAt) (x : Opnd) (s : State) : Host.Outcome State Fault Refusal := .next (s.inLeg.ysPair a x 3)

/-- YS_FILL. -/
def execYsFill (a : SlotAt) (x : Opnd) (s : State) : Host.Outcome State Fault Refusal := .next (s.inLeg.ysTag a x true)

/-- YS_EMPTY. -/
def execYsEmpty (a : SlotAt) (x : Opnd) (s : State) : Host.Outcome State Fault Refusal := .next (s.inLeg.ysTag a x false)

/-- YS_INC. -/
def execYsInc (a : SlotAt) (x : Opnd) (s : State) : Host.Outcome State Fault Refusal := .next (s.inLeg.ysCtr a x true)

/-- YS_DEC. -/
def execYsDec (a : SlotAt) (x : Opnd) (s : State) : Host.Outcome State Fault Refusal := .next (s.inLeg.ysCtr a x false)

/-- ML_PUBLISH (R73, R89): the tag word is reached in the cycle after the issue. -/
def execMlPublish (a : SlotAt) (x : Opnd) (s : State) : Host.Outcome State Fault Refusal :=
  .next (s.inLeg.slot a 6 (fun _ => false) (fun t =>
    let k := fld x 3 0
    let w := t.mailTag k
    if fld x 95 4 ≠ 0 then t.slotLost a 6 (some 1)
    else if !t.owned ttWrites w 8 then t.slotLost a 6 none
    else t.slotTakes a 6 (fun u => u.wordJob a 6 (.publish k w) 0)))

/-- GD_NOP. -/
def execGdNop (a : SlotAt) (x : Opnd) (s : State) : Host.Outcome State Fault Refusal :=
  .next (s.inLeg.slot a 7 (fun _ => false) (fun t =>
    if x ≠ 0 then t.slotLost a 7 (some 1) else t.slotTakes a 7 (fun u => u)))

/-- GD_EXPECT (R74). -/
def execGdExpect (a : SlotAt) (x : Opnd) (s : State) : Host.Outcome State Fault Refusal :=
  .next (s.inLeg.slot a 7 (fun _ => false) (fun t =>
    let w := fld x 31 0
    if addrBad x then t.slotLost a 7 (some 1)
    else if !t.owned ttReads w 8 then t.slotLost a 7 none
    else t.slotTakes a 7 (fun u => u.wordJob a 7 (.expect w) 0)))

/-- GD_INSPECT (R74): the window of LEN ACLK follows the slot. -/
def execGdInspect (a : SlotAt) (x : Opnd) (s : State) : Host.Outcome State Fault Refusal :=
  .next (s.inLeg.slot a 7 (fun _ => false) (fun t =>
    if fld x 31 27 ≠ 0 ∨ fld x 95 38 ≠ 0 then t.slotLost a 7 (some 1)
    else t.slotTakes a 7 (fun u =>
      { u with seq := { u.seq with windows := u.seq.windows ++ [(u.cycle + 1, u.cycle + fld x 26 0, fld x 37 32)] } })))

/-- END (R66). -/
def execEndLane (a : SlotAt) (x : Opnd) (s : State) : Host.Outcome State Fault Refusal :=
  .next (s.inLeg.slot a 15 (fun _ => false) (fun t =>
    if x ≠ 0 then t.slotLost a 15 (some 1)
    else t.setLane a.lane.toNat { t.lane a.lane.toNat with ended := true }))

/-- RELAY_FRAME_ARRIVAL (R309); `leaving`: the frame was in reception on a port that left the lane at the changeover (R313). -/
def execRelayFrameArrival (l : BitVec 3) (f : BitVec 2208) (a : BitVec 27) (leaving : Bool) (s : State) :
    Host.Outcome State Fault Refusal :=
  .next (s.run (fun t => t.frameArrives l.toNat f a.toNat leaving))

/-- RELAY_FRAME_LANDING (R311): the lane's next frame lands, line j at L + j. -/
def execRelayFrameLanding (l : BitVec 3) (s : State) : Host.Outcome State Fault Refusal :=
  .next (s.run (fun t => match t.firstFrame l.toNat with | some x => t.advanceTo (x.land + 3) | none => t))

/-- LANE_DOWN (R312), in a reset too: the lock indication is the base die's. -/
def execLaneDown (port : BitVec 4) (s : State) : Host.Outcome State Fault Refusal :=
  let t := s.inLeg
  .next (if port.toNat < 9 then t.portDown port.toNat else t)

/-- LANE_UP (R312): the base die reports the port locked, in a reset too. -/
def execLaneUp (port : BitVec 4) (s : State) : Host.Outcome State Fault Refusal :=
  let t := s.inLeg
  .next (if port.toNat < 9 then { t with pins := { t.pins with lock := setBit t.pins.lock port.toNat true } } else t)

/-- DRAG_CHANGE (R303): new sampled levels. -/
def execDragChange (levels : BitVec 24) (s : State) : Host.Outcome State Fault Refusal :=
  .next (s.run (fun t => (t.setF RL_DRAG 23 0 levels.toNat).dragCheck))

/-- MAIL_DRAW (R88). -/
def execMailDraw (k : BitVec 4) (s : State) : Host.Outcome State Fault Refusal :=
  .next (s.run (fun t => if t.drawable k.toNat then t.drawMail k.toNat else t))

/-- MAIL_LINE_SEND (R316). -/
def execMailLineSend (s : State) : Host.Outcome State Fault Refusal := .next (s.run State.mailCredit)

/-- MAIL_DRAW_RECORD (R315). -/
def execMailDrawRecord (k : BitVec 4) (s : State) : Host.Outcome State Fault Refusal :=
  .next (s.run (fun t => (t.claim (.mailDrawRecord k)).drawRecord k.toNat))

end Sys2Proof.Machine
end

