-- ==== Sys2Proof/Machine/TensorCommands.lean ====
section
/-! DEFINITION. The commands of the tensor unit in core mode. Sections: R101 to R227. -/

namespace Sys2Proof.Machine

/-- TMMA in core mode. -/
def execTmma (w : Insn) (s : State) : Host.Outcome State Fault Refusal :=
  .next (s.byCore (.tmma w) w (fun t => t.tmma w (t.coreSite w)))

/-- TMMV in core mode. -/
def execTmmv (w : Insn) (s : State) : Host.Outcome State Fault Refusal :=
  .next (s.byCore (.tmmv w) w (fun t => t.tmmv w (t.coreSite w)))

/-- TDRAIN in core mode. -/
def execTdrain (w : Insn) (s : State) : Host.Outcome State Fault Refusal :=
  .next (s.byCore (.tdrain w) w (fun t => t.tdrain w (t.coreSite w)))

/-- TLD in core mode; `cut`: the first row left incomplete where an abandonment falls inside (R188). -/
def execTld (w : Insn) (o : Outside) (cut : Option (BitVec 7)) (s : State) : Host.Outcome State Fault Refusal :=
  .next (s.byCore (.tld w o cut) w (fun t => t.tmove w (t.coreSite w) false o cut))

/-- TST in core mode. -/
def execTst (w : Insn) (o : Outside) (cut : Option (BitVec 7)) (s : State) : Host.Outcome State Fault Refusal :=
  .next (s.byCore (.tst w o cut) w (fun t => t.tmove w (t.coreSite w) true o cut))

/-- TSHAPE. -/
def execTshape (w : Insn) (s : State) : Host.Outcome State Fault Refusal := .next (s.byCore (.tshape w) w (fun t => t.tmanage w (t.coreSite w) 0))

/-- TZERO. -/
def execTzero (w : Insn) (s : State) : Host.Outcome State Fault Refusal := .next (s.byCore (.tzero w) w (fun t => t.tmanage w (t.coreSite w) 1))

/-- TRELEASE. -/
def execTrelease (w : Insn) (s : State) : Host.Outcome State Fault Refusal :=
  .next (s.byCore (.trelease w) w (fun t => t.tmanage w (t.coreSite w) 2))

/-- TSCALE. -/
def execTscale (w : Insn) (s : State) : Host.Outcome State Fault Refusal := .next (s.byCore (.tscale w) w (fun t => t.tmanage w (t.coreSite w) 5))

/-- TSAVE. -/
def execTsave (w : Insn) (o : Outside) (s : State) : Host.Outcome State Fault Refusal :=
  .next (s.byCore (.tsave w o) w (fun t => t.tsave w (t.coreSite w) o))

/-- TRESTORE. -/
def execTrestore (w : Insn) (o : Outside) (s : State) : Host.Outcome State Fault Refusal :=
  .next (s.byCore (.trestore w o) w (fun t => t.trestore w (t.coreSite w) o))

/-- VADD. -/
def execVadd (w : Insn) (s : State) : Host.Outcome State Fault Refusal :=
  .next (s.byCore (.vadd w) w (fun t => t.vec2 w (t.coreSite w) 0x0))

/-- VSUB. -/
def execVsub (w : Insn) (s : State) : Host.Outcome State Fault Refusal :=
  .next (s.byCore (.vsub w) w (fun t => t.vec2 w (t.coreSite w) 0x1))

/-- VMUL. -/
def execVmul (w : Insn) (s : State) : Host.Outcome State Fault Refusal :=
  .next (s.byCore (.vmul w) w (fun t => t.vec2 w (t.coreSite w) 0x2))

/-- VDIV. -/
def execVdiv (w : Insn) (s : State) : Host.Outcome State Fault Refusal :=
  .next (s.byCore (.vdiv w) w (fun t => t.vec2 w (t.coreSite w) 0x3))

/-- VMIN. -/
def execVmin (w : Insn) (s : State) : Host.Outcome State Fault Refusal :=
  .next (s.byCore (.vmin w) w (fun t => t.vec2 w (t.coreSite w) 0x4))

/-- VMAX. -/
def execVmax (w : Insn) (s : State) : Host.Outcome State Fault Refusal :=
  .next (s.byCore (.vmax w) w (fun t => t.vec2 w (t.coreSite w) 0x5))

/-- VFMA. -/
def execVfma (w : Insn) (s : State) : Host.Outcome State Fault Refusal :=
  .next (s.byCore (.vfma w) w (fun t => t.vec2 w (t.coreSite w) 0x6))

/-- VFNMA. -/
def execVfnma (w : Insn) (s : State) : Host.Outcome State Fault Refusal :=
  .next (s.byCore (.vfnma w) w (fun t => t.vec2 w (t.coreSite w) 0x7))

/-- VSCALB. -/
def execVscalb (w : Insn) (s : State) : Host.Outcome State Fault Refusal :=
  .next (s.byCore (.vscalb w) w (fun t => t.vec2 w (t.coreSite w) 0x8))

/-- VAND. -/
def execVand (w : Insn) (s : State) : Host.Outcome State Fault Refusal :=
  .next (s.byCore (.vand w) w (fun t => t.vec2 w (t.coreSite w) 0x10))

/-- VOR. -/
def execVor (w : Insn) (s : State) : Host.Outcome State Fault Refusal :=
  .next (s.byCore (.vor w) w (fun t => t.vec2 w (t.coreSite w) 0x11))

/-- VXOR. -/
def execVxor (w : Insn) (s : State) : Host.Outcome State Fault Refusal :=
  .next (s.byCore (.vxor w) w (fun t => t.vec2 w (t.coreSite w) 0x12))

/-- VSHL. -/
def execVshl (w : Insn) (s : State) : Host.Outcome State Fault Refusal :=
  .next (s.byCore (.vshl w) w (fun t => t.vec2 w (t.coreSite w) 0x13))

/-- VSHRA. -/
def execVshra (w : Insn) (s : State) : Host.Outcome State Fault Refusal :=
  .next (s.byCore (.vshra w) w (fun t => t.vec2 w (t.coreSite w) 0x14))

/-- VSHRL. -/
def execVshrl (w : Insn) (s : State) : Host.Outcome State Fault Refusal :=
  .next (s.byCore (.vshrl w) w (fun t => t.vec2 w (t.coreSite w) 0x15))

/-- VMOV. -/
def execVmov (w : Insn) (s : State) : Host.Outcome State Fault Refusal :=
  .next (s.byCore (.vmov w) w (fun t => t.vec1 w (t.coreSite w) 0))

/-- VNEG. -/
def execVneg (w : Insn) (s : State) : Host.Outcome State Fault Refusal :=
  .next (s.byCore (.vneg w) w (fun t => t.vec1 w (t.coreSite w) 1))

/-- VABS. -/
def execVabs (w : Insn) (s : State) : Host.Outcome State Fault Refusal :=
  .next (s.byCore (.vabs w) w (fun t => t.vec1 w (t.coreSite w) 2))

/-- VSQRT. -/
def execVsqrt (w : Insn) (s : State) : Host.Outcome State Fault Refusal :=
  .next (s.byCore (.vsqrt w) w (fun t => t.vec1 w (t.coreSite w) 3))

/-- VRNDI. -/
def execVrndi (w : Insn) (s : State) : Host.Outcome State Fault Refusal :=
  .next (s.byCore (.vrndi w) w (fun t => t.vec1 w (t.coreSite w) 4))

/-- VLOGB. -/
def execVlogb (w : Insn) (s : State) : Host.Outcome State Fault Refusal :=
  .next (s.byCore (.vlogb w) w (fun t => t.vec1 w (t.coreSite w) 5))

/-- VCVT. -/
def execVcvt (w : Insn) (s : State) : Host.Outcome State Fault Refusal :=
  .next (s.byCore (.vcvt w) w (fun t => t.vcvt w (t.coreSite w)))

/-- VRSUM. -/
def execVrsum (w : Insn) (s : State) : Host.Outcome State Fault Refusal :=
  .next (s.byCore (.vrsum w) w (fun t => t.vred w (t.coreSite w) 0))

/-- VRMAX. -/
def execVrmax (w : Insn) (s : State) : Host.Outcome State Fault Refusal :=
  .next (s.byCore (.vrmax w) w (fun t => t.vred w (t.coreSite w) 1))

/-- VRMIN. -/
def execVrmin (w : Insn) (s : State) : Host.Outcome State Fault Refusal :=
  .next (s.byCore (.vrmin w) w (fun t => t.vred w (t.coreSite w) 2))

/-- VSUMP. -/
def execVsump (w : Insn) (s : State) : Host.Outcome State Fault Refusal :=
  .next (s.byCore (.vsump w) w (fun t => t.vsump w (t.coreSite w)))

/-- VSETVL. -/
def execVsetvl (w : Insn) (s : State) : Host.Outcome State Fault Refusal :=
  .next (s.byCore (.vsetvl w) w (fun t => t.vsetvl w (t.coreSite w)))

/-- VBCAST. -/
def execVbcast (w : Insn) (s : State) : Host.Outcome State Fault Refusal :=
  .next (s.byCore (.vbcast w) w (fun t => t.vbcast w (t.coreSite w)))

/-- VCMPEQ. -/
def execVcmpeq (w : Insn) (s : State) : Host.Outcome State Fault Refusal :=
  .next (s.byCore (.vcmpeq w) w (fun t => t.vcmp w (t.coreSite w) 8))

/-- VCMPLT. -/
def execVcmplt (w : Insn) (s : State) : Host.Outcome State Fault Refusal :=
  .next (s.byCore (.vcmplt w) w (fun t => t.vcmp w (t.coreSite w) 9))

/-- VCMPLE. -/
def execVcmple (w : Insn) (s : State) : Host.Outcome State Fault Refusal :=
  .next (s.byCore (.vcmple w) w (fun t => t.vcmp w (t.coreSite w) 10))

/-- VMAND. -/
def execVmand (w : Insn) (s : State) : Host.Outcome State Fault Refusal :=
  .next (s.byCore (.vmand w) w (fun t => t.vmask w (t.coreSite w) 16))

/-- VMOR. -/
def execVmor (w : Insn) (s : State) : Host.Outcome State Fault Refusal :=
  .next (s.byCore (.vmor w) w (fun t => t.vmask w (t.coreSite w) 17))

/-- VMNOT. -/
def execVmnot (w : Insn) (s : State) : Host.Outcome State Fault Refusal :=
  .next (s.byCore (.vmnot w) w (fun t => t.vmask w (t.coreSite w) 18))

/-- VLD. -/
def execVld (w : Insn) (o : Outside) (s : State) : Host.Outcome State Fault Refusal :=
  .next (s.byCore (.vld w o) w (fun t => t.vmem w (t.coreSite w) 0 o none))

/-- VST; `cut`: the accesses issued where an abandonment falls inside (R217). -/
def execVst (w : Insn) (o : Outside) (cut : Option (BitVec 11)) (s : State) : Host.Outcome State Fault Refusal :=
  .next (s.byCore (.vst w o cut) w (fun t => t.vmem w (t.coreSite w) 1 o cut))

/-- VGATH. -/
def execVgath (w : Insn) (o : Outside) (s : State) : Host.Outcome State Fault Refusal :=
  .next (s.byCore (.vgath w o) w (fun t => t.vmem w (t.coreSite w) 2 o none))

/-- VSCAT; `cut`: the accesses issued where an abandonment falls inside (R217). -/
def execVscat (w : Insn) (o : Outside) (cut : Option (BitVec 11)) (s : State) : Host.Outcome State Fault Refusal :=
  .next (s.byCore (.vscat w o cut) w (fun t => t.vmem w (t.coreSite w) 3 o cut))

/-- VSPLIT. -/
def execVsplit (w : Insn) (s : State) : Host.Outcome State Fault Refusal :=
  .next (s.byCore (.vsplit w) w (fun t => t.vsplit w (t.coreSite w)))

/-- VJOINS. -/
def execVjoins (w : Insn) (s : State) : Host.Outcome State Fault Refusal :=
  .next (s.byCore (.vjoins w) w (fun t => t.vjoinOp w (t.coreSite w) 1))

/-- VJOIN. -/
def execVjoin (w : Insn) (s : State) : Host.Outcome State Fault Refusal :=
  .next (s.byCore (.vjoin w) w (fun t => t.vjoinOp w (t.coreSite w) 2))

end Sys2Proof.Machine
end

