-- ==== Sys2Proof/Machine/Dispatch.lean ====
section
/-! DEFINITION. What each command does: one arm for each row of spec/opcode_table.json, one call of its meaning. The queue of
commands is the step's (Step.lean), and no meaning touches it. -/

namespace Sys2Proof.Machine

def exec (i : Instr) (s : State) : Host.Outcome State Fault Refusal :=
  match i with
  | .powerOnReset pkg blk clamp => Sys2Proof.Machine.execPowerOnReset pkg blk clamp s
  | .blockReset => Sys2Proof.Machine.execBlockReset s
  | .pwResetBlock data => Sys2Proof.Machine.execPwResetBlock data s
  | .resetComplete => Sys2Proof.Machine.execResetComplete s
  | .pwCoreRun data => Sys2Proof.Machine.execPwCoreRun data s
  | .coreResetComplete o => Sys2Proof.Machine.execCoreResetComplete o s
  | .hornEdge c => Sys2Proof.Machine.execHornEdge c s
  | .localHorn => Sys2Proof.Machine.execLocalHorn s
  | .legStart => Sys2Proof.Machine.execLegStart s
  | .changeoverEnd => Sys2Proof.Machine.execChangeoverEnd s
  | .legMargin => Sys2Proof.Machine.execLegMargin s
  | .mxIssue at_ x => Sys2Proof.Machine.execMxIssue at_ x s
  | .tfIssue at_ x => Sys2Proof.Machine.execTfIssue at_ x s
  | .vxIssue at_ x => Sys2Proof.Machine.execVxIssue at_ x s
  | .wbStage at_ x => Sys2Proof.Machine.execWbStage at_ x s
  | .wbFire at_ x => Sys2Proof.Machine.execWbFire at_ x s
  | .rlSend at_ x => Sys2Proof.Machine.execRlSend at_ x s
  | .ysTake at_ x => Sys2Proof.Machine.execYsTake at_ x s
  | .ysPeek at_ x => Sys2Proof.Machine.execYsPeek at_ x s
  | .ysPut at_ x => Sys2Proof.Machine.execYsPut at_ x s
  | .ysFill at_ x => Sys2Proof.Machine.execYsFill at_ x s
  | .ysEmpty at_ x => Sys2Proof.Machine.execYsEmpty at_ x s
  | .ysInc at_ x => Sys2Proof.Machine.execYsInc at_ x s
  | .ysDec at_ x => Sys2Proof.Machine.execYsDec at_ x s
  | .mlPublish at_ x => Sys2Proof.Machine.execMlPublish at_ x s
  | .gdNop at_ x => Sys2Proof.Machine.execGdNop at_ x s
  | .gdExpect at_ x => Sys2Proof.Machine.execGdExpect at_ x s
  | .gdInspect at_ x => Sys2Proof.Machine.execGdInspect at_ x s
  | .endLane at_ x => Sys2Proof.Machine.execEndLane at_ x s
  | .mailDraw k => Sys2Proof.Machine.execMailDraw k s
  | .mailLineSend => Sys2Proof.Machine.execMailLineSend s
  | .mailDrawRecord k => Sys2Proof.Machine.execMailDrawRecord k s
  | .relayFrameArrival l frame a leaving => Sys2Proof.Machine.execRelayFrameArrival l frame a leaving s
  | .relayFrameLanding l => Sys2Proof.Machine.execRelayFrameLanding l s
  | .laneDown port => Sys2Proof.Machine.execLaneDown port s
  | .dragChange levels => Sys2Proof.Machine.execDragChange levels s
  | .tmma w => Sys2Proof.Machine.execTmma w s
  | .tmmv w => Sys2Proof.Machine.execTmmv w s
  | .mxCommit => Sys2Proof.Machine.execMxCommit s
  | .tdrain w => Sys2Proof.Machine.execTdrain w s
  | .tld w o cut => Sys2Proof.Machine.execTld w o cut s
  | .tst w o cut => Sys2Proof.Machine.execTst w o cut s
  | .tshape w => Sys2Proof.Machine.execTshape w s
  | .tzero w => Sys2Proof.Machine.execTzero w s
  | .trelease w => Sys2Proof.Machine.execTrelease w s
  | .tsave w o => Sys2Proof.Machine.execTsave w o s
  | .trestore w o => Sys2Proof.Machine.execTrestore w o s
  | .tscale w => Sys2Proof.Machine.execTscale w s
  | .vadd w => Sys2Proof.Machine.execVadd w s
  | .vsub w => Sys2Proof.Machine.execVsub w s
  | .vmul w => Sys2Proof.Machine.execVmul w s
  | .vdiv w => Sys2Proof.Machine.execVdiv w s
  | .vmin w => Sys2Proof.Machine.execVmin w s
  | .vmax w => Sys2Proof.Machine.execVmax w s
  | .vfma w => Sys2Proof.Machine.execVfma w s
  | .vfnma w => Sys2Proof.Machine.execVfnma w s
  | .vscalb w => Sys2Proof.Machine.execVscalb w s
  | .vand w => Sys2Proof.Machine.execVand w s
  | .vor w => Sys2Proof.Machine.execVor w s
  | .vxor w => Sys2Proof.Machine.execVxor w s
  | .vshl w => Sys2Proof.Machine.execVshl w s
  | .vshra w => Sys2Proof.Machine.execVshra w s
  | .vshrl w => Sys2Proof.Machine.execVshrl w s
  | .vmov w => Sys2Proof.Machine.execVmov w s
  | .vneg w => Sys2Proof.Machine.execVneg w s
  | .vabs w => Sys2Proof.Machine.execVabs w s
  | .vsqrt w => Sys2Proof.Machine.execVsqrt w s
  | .vrndi w => Sys2Proof.Machine.execVrndi w s
  | .vlogb w => Sys2Proof.Machine.execVlogb w s
  | .vcvt w => Sys2Proof.Machine.execVcvt w s
  | .vrsum w => Sys2Proof.Machine.execVrsum w s
  | .vrmax w => Sys2Proof.Machine.execVrmax w s
  | .vrmin w => Sys2Proof.Machine.execVrmin w s
  | .vsump w => Sys2Proof.Machine.execVsump w s
  | .vsetvl w => Sys2Proof.Machine.execVsetvl w s
  | .vbcast w => Sys2Proof.Machine.execVbcast w s
  | .vcmpeq w => Sys2Proof.Machine.execVcmpeq w s
  | .vcmplt w => Sys2Proof.Machine.execVcmplt w s
  | .vcmple w => Sys2Proof.Machine.execVcmple w s
  | .vmand w => Sys2Proof.Machine.execVmand w s
  | .vmor w => Sys2Proof.Machine.execVmor w s
  | .vmnot w => Sys2Proof.Machine.execVmnot w s
  | .vld w o => Sys2Proof.Machine.execVld w o s
  | .vst w o cut => Sys2Proof.Machine.execVst w o cut s
  | .vgath w o => Sys2Proof.Machine.execVgath w o s
  | .vscat w o cut => Sys2Proof.Machine.execVscat w o cut s
  | .vsplit w => Sys2Proof.Machine.execVsplit w s
  | .vjoins w => Sys2Proof.Machine.execVjoins w s
  | .vjoin w => Sys2Proof.Machine.execVjoin w s
  | .vxCommit => Sys2Proof.Machine.execVxCommit s
  | .yput w o => Sys2Proof.Machine.execYput w o s
  | .ytake w o => Sys2Proof.Machine.execYtake w o s
  | .ypeek w o => Sys2Proof.Machine.execYpeek w o s
  | .yfill w o => Sys2Proof.Machine.execYfill w o s
  | .yempty w o => Sys2Proof.Machine.execYempty w o s
  | .ytag w o => Sys2Proof.Machine.execYtag w o s
  | .yinc w o => Sys2Proof.Machine.execYinc w o s
  | .ydec w o => Sys2Proof.Machine.execYdec w o s
  | .ywait w o => Sys2Proof.Machine.execYwait w o s
  | .yctr w o => Sys2Proof.Machine.execYctr w o s
  | .mbsend w o => Sys2Proof.Machine.execMbsend w o s
  | .mbrecv w o => Sys2Proof.Machine.execMbrecv w o s
  | .tailboardServe bank => Sys2Proof.Machine.execTailboardServe bank s
  | .wakeArrival id => Sys2Proof.Machine.execWakeArrival id s
  | .berthResend id => Sys2Proof.Machine.execBerthResend id s
  | .pollRetry id => Sys2Proof.Machine.execPollRetry id s
  | .remoteResend o => Sys2Proof.Machine.execRemoteResend o s
  | .wbqueue w o => Sys2Proof.Machine.execWbqueue w o s
  | .wbabort w => Sys2Proof.Machine.execWbabort w s
  | .wbstat w => Sys2Proof.Machine.execWbstat w s
  | .wbChQueue ch who data o => Sys2Proof.Machine.execWbChQueue ch who data o s
  | .wbChAbort ch who data => Sys2Proof.Machine.execWbChAbort ch who data s
  | .atsCompletion ch r => Sys2Proof.Machine.execAtsCompletion ch r s
  | .atsTimeout ch => Sys2Proof.Machine.execAtsTimeout ch s
  | .atsInvalidate pasid va len => Sys2Proof.Machine.execAtsInvalidate pasid va len s
  | .wbResponse ch r => Sys2Proof.Machine.execWbResponse ch r s
  | .wbTransferComplete ch o => Sys2Proof.Machine.execWbTransferComplete ch o s
  | .wbYardOnlyComplete ch => Sys2Proof.Machine.execWbYardOnlyComplete ch s
  | .fabricRequestArrival q => Sys2Proof.Machine.execFabricRequestArrival q s
  | .fabricTimeout who => Sys2Proof.Machine.execFabricTimeout who s
  | .lateResponse => Sys2Proof.Machine.execLateResponse s
  | .integerRegReg op rd ra rb => Sys2Proof.Machine.execIntegerRegReg op rd ra rb s
  | .integerRegImm op rd ra imm => Sys2Proof.Machine.execIntegerRegImm op rd ra imm s
  | .loadUpperImmediate pcRel rd imm => Sys2Proof.Machine.execLoadUpperImmediate pcRel rd imm s
  | .shiftBitfield op rd ra amt => Sys2Proof.Machine.execShiftBitfield op rd ra amt s
  | .multiply rd ra rb => Sys2Proof.Machine.execMultiply rd ra rb s
  | .div rd ra rb => Sys2Proof.Machine.execDiv rd ra rb s
  | .divu rd ra rb => Sys2Proof.Machine.execDivu rd ra rb s
  | .rem rd ra rb => Sys2Proof.Machine.execRem rd ra rb s
  | .remu rd ra rb => Sys2Proof.Machine.execRemu rd ra rb s
  | .conditionalSelect rd ra rb rc => Sys2Proof.Machine.execConditionalSelect rd ra rb rc s
  | .loadMem sz signed rd ra disp o => Sys2Proof.Machine.execLoadMem sz signed rd ra disp o s
  | .storeMem sz rs ra disp bg o => Sys2Proof.Machine.execStoreMem sz rs ra disp bg o s
  | .conditionalBranch c ra rb disp => Sys2Proof.Machine.execConditionalBranch c ra rb disp s
  | .jumpAndLink rd disp => Sys2Proof.Machine.execJumpAndLink rd disp s
  | .jumpAndLinkRegister rd ra disp => Sys2Proof.Machine.execJumpAndLinkRegister rd ra disp s
  | .scalarFp op dbl rd ra rb rc => Sys2Proof.Machine.execScalarFp op dbl rd ra rb rc s
  | .retx w o => Sys2Proof.Machine.execRetx w o s
  | .svc w => Sys2Proof.Machine.execSvc w s
  | .iflush w o => Sys2Proof.Machine.execIflush w o s
  | .fence w o => Sys2Proof.Machine.execFence w o s
  | .waiti w => Sys2Proof.Machine.execWaiti w s
  | .mfs w => Sys2Proof.Machine.execMfs w s
  | .mts w o => Sys2Proof.Machine.execMts w o s
  | .cmo w o => Sys2Proof.Machine.execCmo w o s
  | .spinv w o => Sys2Proof.Machine.execSpinv w o s
  | .spanWalk va w o => Sys2Proof.Machine.execSpanWalk va w o s
  | .storeBufferDrain o => Sys2Proof.Machine.execStoreBufferDrain o s
  | .l2Fill line code o => Sys2Proof.Machine.execL2Fill line code o s
  | .interruptRecognition => Sys2Proof.Machine.execInterruptRecognition s
  | .syncFaultEntry c faddr w => Sys2Proof.Machine.execSyncFaultEntry c faddr w s
  | .tsbSaveComplete o => Sys2Proof.Machine.execTsbSaveComplete o s
  | .timerExpiry => Sys2Proof.Machine.execTimerExpiry s
  | .dbHaltreq data => Sys2Proof.Machine.execDbHaltreq data s
  | .dbResume data => Sys2Proof.Machine.execDbResume data s
  | .debugBreakpoint bp => Sys2Proof.Machine.execDebugBreakpoint bp s
  | .ydDbgSel who data => Sys2Proof.Machine.execYdDbgSel who data s
  | .dbgReadoutDone => Sys2Proof.Machine.execDbgReadoutDone s
  | .hwreset who data => Sys2Proof.Machine.execHwreset who data s
  | .cmCtrlEnable data => Sys2Proof.Machine.execCmCtrlEnable data s
  | .bookingDoorbell data readErr => Sys2Proof.Machine.execBookingDoorbell data readErr s
  | .registerWrite who off sz8 data => Sys2Proof.Machine.execRegisterWrite who off sz8 data s
  | .identify p => Sys2Proof.Machine.execIdentify p s
  | .featureOffer p => Sys2Proof.Machine.execFeatureOffer p s
  | .featureAccept p => Sys2Proof.Machine.execFeatureAccept p s
  | .coreAlert p => Sys2Proof.Machine.execCoreAlert p s
  | .resetCoreOnly p => Sys2Proof.Machine.execResetCoreOnly p s
  | .resetHarnessSoft p => Sys2Proof.Machine.execResetHarnessSoft p s
  | .fwLoad p image => Sys2Proof.Machine.execFwLoad p image s
  | .harnessSet p => Sys2Proof.Machine.execHarnessSet p s
  | .harnessCommit p => Sys2Proof.Machine.execHarnessCommit p s
  | .harnessDiscard p => Sys2Proof.Machine.execHarnessDiscard p s
  | .harnessRead p => Sys2Proof.Machine.execHarnessRead p s
  | .ttAdmit p => Sys2Proof.Machine.execTtAdmit p s
  | .ttAdmitDone => Sys2Proof.Machine.execTtAdmitDone s
  | .ttWithdraw p => Sys2Proof.Machine.execTtWithdraw p s
  | .stopCmd p => Sys2Proof.Machine.execStopCmd p s
  | .selfTest p => Sys2Proof.Machine.execSelfTest p s
  | .unitTestComplete u pass => Sys2Proof.Machine.execUnitTestComplete u pass s
  | .groupRescue g => Sys2Proof.Machine.execGroupRescue g s
  | .fenceStrike u => Sys2Proof.Machine.execFenceStrike u s
  | .reinstate p => Sys2Proof.Machine.execReinstate p s
  | .syncDump p => Sys2Proof.Machine.execSyncDump p s
  | .syncDumpDone err => Sys2Proof.Machine.execSyncDumpDone err s
  | .receiptPost ok => Sys2Proof.Machine.execReceiptPost ok s
  | .notifyWrite ok => Sys2Proof.Machine.execNotifyWrite ok s
  | .energySample uj => Sys2Proof.Machine.execEnergySample uj s
  | .legEnergyWrite => Sys2Proof.Machine.execLegEnergyWrite s
  | .telemetryLost => Sys2Proof.Machine.execTelemetryLost s
  | .powerWindowEnd mw => Sys2Proof.Machine.execPowerWindowEnd mw s
  | .laneUp port => Sys2Proof.Machine.execLaneUp port s
  | .harnessCommitCheckDone => Sys2Proof.Machine.execHarnessCommitCheckDone s

end Sys2Proof.Machine
end

