-- ==== Sys2Proof/Machine/Tick.lean ====
section
/-! DEFINITION. What the block does of itself when no command waits (log 2): its own events that are due join the queue, then the
requests that wait for a tailboard port; and where none is left, the ACLK ends and the next one begins, in which the sequencer fetches,
and slots, mail draws, the margin, a local horn and the timer come due. Sections: R33, R38, R54, R55, R59, R63 to R66, R88, R236, R327,
R332, R357, R444, R458. -/

namespace Sys2Proof.Machine

/-! ## The sequencer (R63, R65) -/

/-- Line n of lane i is fetched, if it exists. -/
def State.fetchLine (s : State) (i n : Nat) : State :=
  let l := s.lane i
  if 4 * n < l.count then
    let ws := ((List.range 4).filter (fun j => decide (4 * n + j < l.count))).map (fun j =>
      (4 * n + j, (BitVec.ofNat 128 (s.peek (l.base + 64 * n + 16 * j) 16) : BitVec 128)))
    (s.setLane i { l with buf := l.buf.filter (fun p => decide (l.next ≤ p.1)) ++ ws }).seeRange (l.base + 64 * n) 64
  else s

/-- The fetches of the changeover due in this cycle: at 44 + 5i + j line j of lane i. -/
def State.fetches (s : State) : State :=
  if s.tt = 1 ∨ s.tt = 2 then
    (List.range 20).foldl (fun t n => if t.cycle = 44 + n then t.fetchLine (n / 5) (n % 5) else t) s
  else s

/-- The word and the cycle of the next slot of a lane. -/
def State.nextSlot (s : State) (i : Nat) : Option (BitVec 128 × Nat) :=
  let l := s.lane i
  if l.ended then none else (l.buf.find? (fun p => decide (p.1 = l.next))).map (fun p => (p.2, l.last + swDelta p.2))

/-- The slot of a lane due now, as the command it spells; a word that spells none is discarded (R458). -/
def State.slotDue (s : State) (i : Nat) : List Instr × State :=
  match s.nextSlot i with
  | none => ([], s)
  | some (w, c) =>
    let a : SlotAt := ⟨BitVec.ofNat 2 i, BitVec.ofNat 18 (s.lane i).next, BitVec.ofNat 27 s.cycle⟩
    if s.cycle < c ∨ !s.slotOk a then ([], s)
    else
      let n := (s.lane i).next
      let s1 := if n % 4 = 0 then s.fetchLine i (n / 4 + 4) else s
      match slotCmd w with
      | some k => ([k a (swOpnd w)], s1)
      | none => ([], (s1.issued a).slotLost a (swStation w) (some 1))

/-- The slots due now, lane by lane. -/
def State.slotsDue (s : State) : List Instr × State :=
  (List.range 4).foldl (fun (p : List Instr × State) i =>
    let (l, t) := p.2.slotDue i
    (p.1 ++ l, t)) ([], s)

/-! ## One ACLK -/

/-- The block's own events due by now, without those that need an answer from outside. -/
def State.dueNow (s : State) : List Instr :=
  (s.agenda.filter (fun p => decide (p.1 ≤ s.time.toNat) && (match p.2 with | .remoteResend _ => false | _ => true))).map (·.2)

/-- Commands of the Horn unit and the timer in this cycle, beside the slots. -/
def State.unitsDue (s : State) : List Instr :=
  ((List.range 16).filter (fun k => decide (s.mailD k = s.cycle) && s.drawable k)).map (fun k => .mailDraw (BitVec.ofNat 4 k)) ++
    (if s.legOpen && !s.opening && decide (s.cycle = s.P - s.M) then [.legMargin] else []) ++
    (if !s.opening && decide (s.cycle = s.localAt) then [.localHorn] else []) ++
    (if s.time = s.rd SC_TCMP then [.timerExpiry] else [])

/-- The banks with a request that waits, whose ports have served none in this ACLK (R33): they serve as it ends, under the ownership
that then stands (R38). -/
def State.tailsDue (s : State) : List Instr :=
  ((s.yard.tail.map (·.1)).eraseDups.filter (fun b => !s.yard.served.contains (b, s.time.toNat))).map (fun b =>
    .tailboardServe (BitVec.ofNat 9 b))

/-! ## Cell errors (R236, R327, R332, R444; log 53) -/

/-- A line of the L2 has an error from now on. -/
def State.l2Upset (s : State) (line : Nat) (e : CellErr) : State :=
  match s.l2Find line with
  | some x => if x.err = .hard then s else s.l2Set x.set x.way (some { x with err := e })
  | none => s

/-- A parity error of a physical carriage is counted, and kills it at the threshold (R444, R447). -/
def State.carError (s : State) (i : Nat) : State :=
  if i < 68 then s.unitError (HL_ERR_CAR i) (s.f HL_THRESH 11 0) (BitVec.ofNat 16 (0x100 + i)) else s

/-- A cell error strikes. A Yard word or an L2 line is found out as it is read; a latch, an accumulator entry or an L1 line at once: the
entry is used as it reads, the L1 line is invalidated and its refetch comes with the next access. -/
def State.strikes (s : State) : Upset → State
  | .calm => s
  | .yardBit w =>
    let o := wordOf w.toNat
    if yardBytes ≤ o ∨ inSet o s.yard.bad then s else { s with yard := { s.yard with weak := setIn o true s.yard.weak } }
  | .yardWord w =>
    let o := wordOf w.toNat
    if yardBytes ≤ o then s
    else { s with yard := { s.yard with bad := setIn o true s.yard.bad, weak := setIn o false s.yard.weak } }
  | .latch i => s.carError i.toNat
  | .acc i v =>
    ({ s with tensor := { s.tensor with accs := put (fun _ => (0 : BitVec 32)) i.toNat v s.tensor.accs } } : State).carError
      (s.carriage (i.toNat % 4096 / 64))
  | .l1d n =>
    if s.core.l1d.any (fun p => decide (p.1 = n.toNat)) then
      ({ s with core := { s.core with l1d := s.core.l1d.filter (fun p => decide (p.1 ≠ n.toNat)) } } : State).coreError
    else s
  | .l1i n =>
    if s.core.l1i.any (fun p => decide (p.1 = n.toNat)) then
      ({ s with core := { s.core with l1i := s.core.l1i.filter (fun p => decide (p.1 ≠ n.toNat)) } } : State).coreError
    else s
  | .l2Bit n => s.l2Upset n.toNat .soft
  | .l2Word n => s.l2Upset n.toNat .hard

/-- The next ACLK begins: in a local leg's first one what the leg before had due is left to cycle 0 (R55). -/
def State.nextCycle (s : State) : State :=
  if !s.opening && decide (s.cycle + 1 = s.localAt) then s.atCycle (s.cycle + 1) else s.advanceTo (s.cycle + 1)

/-- One step of the block with no command waiting (log 2). In a reset YD_TIME alone counts (R257). The changeover ends after cycle 63,
before what cycle 64 has (R417). -/
def State.tick (s : State) : State :=
  if s.phase ≠ .run then { s with time := s.time + 1 }
  else
    let l := s.dueNow ++ s.tailsDue
    if !l.isEmpty then { s with pending := s.pending ++ l }
    else
      let s0 := s.engineBeat.nextCycle
      let s1 := (s0.strikes (Config.upset s0.time.toNat)).fetches
      let (l1, s2) := if s1.opening then ([], s1) else s1.slotsDue
      let (first, rest) := s2.dueNow.partition (fun i => decide (i = .changeoverEnd))
      ({ s2 with pending := s2.pending ++ (first ++ l1 ++ s2.unitsDue ++ rest) } : State).goAhead

end Sys2Proof.Machine
end

