-- ==== Sys2Proof/WellFormed.lean ====
section
/-! DEFINITION. Which commands are well formed: each row's own opcode and subop in its word, each packet's opcode, units and
channels that exist, operands in range, operand bits that R62 to R74 define. What an ill-formed command meets is its meaning's
business; no meaning rests on this check. -/

namespace Sys2Proof

open Sys2Proof.Machine

/-- The word has a major opcode. -/
def opIs (w : Insn) (op : Nat) : Bool := decide (fld w 31 26 = op)
/-- A field of the word has a value. -/
def fieldIs (w : Insn) (hi lo v : Nat) : Bool := decide (fld w hi lo = v)

/-- A word of a tensor row: its opcode and, where the opcode has subops, its own. -/
def matrixWord (w : Insn) (op : Nat) : Bool := opIs w op
def moveWord (w : Insn) (store : Nat) : Bool := opIs w 0x2B && fieldIs w 25 25 store
def tileWord (w : Insn) (sub : Nat) : Bool := opIs w 0x2C && fieldIs w 25 22 sub
/-- A word of a vector row (R207): opcode and func. -/
def vecWord (w : Insn) (op func : Nat) : Bool := opIs w op && fieldIs w 5 0 func
def vmemWord (w : Insn) (sub : Nat) : Bool := opIs w 0x23 && fieldIs w 15 14 sub
def drayWord (w : Insn) (func : Nat) : Bool := opIs w 0x24 && fieldIs w 1 0 func
/-- A word of the Yard-sync and Waybill rows (R237, R242, R255, R284): opcode and sub. -/
def syncWord (w : Insn) (op sub : Nat) : Bool := opIs w op && fieldIs w 25 24 sub
/-- A word of opcode 0x38 (R344). -/
def sysWord (w : Insn) (sub : Nat) : Bool := opIs w 0x38 && fieldIs w 25 22 sub
/-- A booking packet with an opcode (R398, R407). -/
def packetIs (p : Packet) (op : Nat) : Bool := decide (fld p 15 0 = op)

/-- Operand bits that are zero. -/
def zeroBits (x : Opnd) (hi lo : Nat) : Bool := decide (fld x hi lo = 0)
/-- ISSUE's operand (R68). -/
def issueOpnd (x : Opnd) : Bool := zeroBits x 63 61
/-- Two words of a YS operation; one word; a counter and a value (R71). -/
def pairOpnd (x : Opnd) : Bool := zeroBits x 95 64 && zeroBits x 2 0 && zeroBits x 34 32
def wordOpnd (x : Opnd) : Bool := zeroBits x 95 32 && zeroBits x 2 0
def ctrOpnd (x : Opnd) : Bool := zeroBits x 95 64 && zeroBits x 31 12

/-- A unit id of R410. -/
def unitOk (u : UnitId) : Bool :=
  match fld u 15 8 with
  | 1 => decide (fld u 7 0 < 68)
  | 2 => true
  | 3 => decide (fld u 7 0 < 4)
  | 4 => decide (fld u 7 0 < 8)
  | 5 => decide (fld u 7 0 < 4)
  | 6 => decide (fld u 7 0 < 2)
  | 7 => decide (fld u 7 0 < 6)
  | 8 => decide (fld u 7 0 < 9)
  | _ => false

/-- A requester id that waits (R245). -/
def waiterOk (id : BitVec 8) : Bool := decide (id = 0) || (decide (0x10 ≤ id.toNat) && decide (id.toNat ≤ 0x47)) || decide (id = 0x70)

/-- Where a slot may stand (R57, R60): a leg cycle after the changeover. -/
def placeOk (a : SlotAt) : Bool := decide (64 ≤ a.cycle.toNat)

/-- A shift's amount fits its operation: a bit field has a length and ends in the register (R323). -/
def amountOk (op : ShiftOp) (m : ShiftAmt) : Bool :=
  match op, m with
  | .extractU, .imm p l => decide (l ≠ 0) && decide (p.toNat + l.toNat ≤ 64)
  | .extractS, .imm p l => decide (l ≠ 0) && decide (p.toNat + l.toNat ≤ 64)
  | .insert, .imm p l => decide (l ≠ 0) && decide (p.toNat + l.toNat ≤ 64)
  | _, .imm _ _ => true
  | _, .reg _ => true

/-- A command is well formed. -/
def Instr.wf (i : Instr) : Bool :=
  match i with
  | .powerOnReset _ _ _ => true
  | .blockReset => true
  | .pwResetBlock _ => true
  | .resetComplete => true
  | .pwCoreRun _ => true
  | .coreResetComplete _ => true
  | .hornEdge _ => true
  | .localHorn => true
  | .legStart => true
  | .changeoverEnd => true
  | .legMargin => true
  | .mxIssue a x => placeOk a && issueOpnd x
  | .tfIssue a x => placeOk a && issueOpnd x
  | .vxIssue a x => placeOk a && issueOpnd x
  | .wbStage a x => placeOk a && zeroBits x 31 4 && zeroBits x 37 32 && zeroBits x 95 61
  | .wbFire a x => placeOk a && zeroBits x 95 4
  | .rlSend a x => placeOk a && zeroBits x 7 3 && zeroBits x 31 18 && zeroBits x 39 32 && zeroBits x 63 61 && zeroBits x 71 64 &&
      zeroBits x 95 93
  | .ysTake a x => placeOk a && pairOpnd x
  | .ysPeek a x => placeOk a && pairOpnd x
  | .ysPut a x => placeOk a && pairOpnd x
  | .ysFill a x => placeOk a && wordOpnd x
  | .ysEmpty a x => placeOk a && wordOpnd x
  | .ysInc a x => placeOk a && ctrOpnd x
  | .ysDec a x => placeOk a && ctrOpnd x
  | .mlPublish a x => placeOk a && zeroBits x 95 4
  | .gdNop a x => placeOk a && zeroBits x 95 0
  | .gdExpect a x => placeOk a && wordOpnd x
  | .gdInspect a x => placeOk a && zeroBits x 31 27 && zeroBits x 95 38
  | .endLane a x => placeOk a && zeroBits x 95 0
  | .mailDraw _ => true
  | .mailLineSend => true
  | .mailDrawRecord _ => true
  | .relayFrameArrival _ _ _ _ => true
  | .relayFrameLanding _ => true
  | .laneDown p => decide (p.toNat < 9)
  | .dragChange _ => true
  | .tmma w => matrixWord w 0x28
  | .tmmv w => matrixWord w 0x29
  | .mxCommit => true
  | .tdrain w => matrixWord w 0x2A
  | .tld w _ _ => moveWord w 0
  | .tst w _ _ => moveWord w 1
  | .tshape w => tileWord w 0
  | .tzero w => tileWord w 1
  | .trelease w => tileWord w 2
  | .tsave w _ => tileWord w 3
  | .trestore w _ => tileWord w 4
  | .tscale w => tileWord w 5
  | .vadd w => vecWord w 0x20 0x00
  | .vsub w => vecWord w 0x20 0x01
  | .vmul w => vecWord w 0x20 0x02
  | .vdiv w => vecWord w 0x20 0x03
  | .vmin w => vecWord w 0x20 0x04
  | .vmax w => vecWord w 0x20 0x05
  | .vfma w => vecWord w 0x20 0x06
  | .vfnma w => vecWord w 0x20 0x07
  | .vscalb w => vecWord w 0x20 0x08
  | .vand w => vecWord w 0x20 0x10
  | .vor w => vecWord w 0x20 0x11
  | .vxor w => vecWord w 0x20 0x12
  | .vshl w => vecWord w 0x20 0x13
  | .vshra w => vecWord w 0x20 0x14
  | .vshrl w => vecWord w 0x20 0x15
  | .vmov w => vecWord w 0x21 0x00
  | .vneg w => vecWord w 0x21 0x01
  | .vabs w => vecWord w 0x21 0x02
  | .vsqrt w => vecWord w 0x21 0x03
  | .vrndi w => vecWord w 0x21 0x04
  | .vlogb w => vecWord w 0x21 0x05
  | .vcvt w => vecWord w 0x21 0x06
  | .vrsum w => vecWord w 0x22 0x00
  | .vrmax w => vecWord w 0x22 0x01
  | .vrmin w => vecWord w 0x22 0x02
  | .vsump w => vecWord w 0x22 0x08
  | .vsetvl w => vecWord w 0x25 0x00
  | .vbcast w => vecWord w 0x25 0x01
  | .vcmpeq w => vecWord w 0x25 0x08
  | .vcmplt w => vecWord w 0x25 0x09
  | .vcmple w => vecWord w 0x25 0x0A
  | .vmand w => vecWord w 0x25 0x10
  | .vmor w => vecWord w 0x25 0x11
  | .vmnot w => vecWord w 0x25 0x12
  | .vld w _ => vmemWord w 0
  | .vst w _ _ => vmemWord w 1
  | .vgath w _ => vmemWord w 2
  | .vscat w _ _ => vmemWord w 3
  | .vsplit w => drayWord w 0
  | .vjoins w => drayWord w 1
  | .vjoin w => drayWord w 2
  | .vxCommit => true
  | .yput w _ => syncWord w 0x30 0
  | .ytake w _ => syncWord w 0x30 1
  | .ypeek w _ => syncWord w 0x30 2
  | .yfill w _ => syncWord w 0x31 0
  | .yempty w _ => syncWord w 0x31 1
  | .ytag w _ => syncWord w 0x31 2
  | .yinc w _ => syncWord w 0x32 0
  | .ydec w _ => syncWord w 0x32 1
  | .ywait w _ => syncWord w 0x32 2
  | .yctr w _ => syncWord w 0x32 3
  | .mbsend w _ => syncWord w 0x33 0
  | .mbrecv w _ => syncWord w 0x33 1
  | .tailboardServe _ => true
  | .wakeArrival id => waiterOk id
  | .berthResend id => waiterOk id
  | .pollRetry id => waiterOk id
  | .remoteResend _ => true
  | .wbqueue w _ => syncWord w 0x34 0
  | .wbabort w => syncWord w 0x34 1
  | .wbstat w => syncWord w 0x34 2
  | .wbChQueue ch _ _ _ => decide (ch.toNat < 56)
  | .wbChAbort ch _ _ => decide (ch.toNat < 56)
  | .atsCompletion ch _ => decide (ch.toNat < 56)
  | .atsTimeout ch => decide (ch.toNat < 56)
  | .atsInvalidate _ _ _ => true
  | .wbResponse ch _ => decide (ch.toNat < 56)
  | .wbTransferComplete ch _ => decide (ch.toNat < 56)
  | .wbYardOnlyComplete _ => true
  | .fabricRequestArrival _ => true
  | .fabricTimeout who =>
    match who with
    | .wbRead ch _ => decide (ch.toNat < 56)
    | .wbWrite ch _ =>
      decide (ch.toNat < 56)
    | .wbFill ch => decide (ch.toNat < 56)
    | _ => true
  | .lateResponse => true
  | .integerRegReg _ _ _ _ => true
  | .integerRegImm _ _ _ _ => true
  | .loadUpperImmediate _ _ _ => true
  | .shiftBitfield op _ _ m => amountOk op m
  | .multiply _ _ _ => true
  | .div _ _ _ => true
  | .divu _ _ _ => true
  | .rem _ _ _ => true
  | .remu _ _ _ => true
  | .conditionalSelect _ _ _ _ => true
  | .loadMem _ _ _ _ _ _ => true
  | .storeMem _ _ _ _ _ _ => true
  | .conditionalBranch _ _ _ d => decide (fld d 1 0 = 0)
  | .jumpAndLink _ d => decide (fld d 1 0 = 0)
  | .jumpAndLinkRegister _ _ _ => true
  | .scalarFp _ _ _ _ _ _ => true
  | .retx w _ => sysWord w 0
  | .svc w => sysWord w 1
  | .iflush w _ => sysWord w 2
  | .fence w _ => sysWord w 3
  | .waiti w => sysWord w 4
  | .mfs w => opIs w 0x39 && fieldIs w 25 25 0
  | .mts w _ => opIs w 0x39 && fieldIs w 25 25 1
  | .cmo w _ => opIs w 0x3A
  | .spinv w _ => opIs w 0x3B
  | .spanWalk _ _ _ => true
  | .storeBufferDrain _ => true
  | .l2Fill _ _ _ => true
  | .interruptRecognition => true
  | .syncFaultEntry _ _ _ => true
  | .tsbSaveComplete _ => true
  | .timerExpiry => true
  | .dbHaltreq d => fld d 1 1 = 1
  | .dbResume d => fld d 2 2 = 1
  | .debugBreakpoint _ => true
  | .ydDbgSel _ _ => true
  | .dbgReadoutDone => true
  | .hwreset _ d => fld d 63 63 = 1
  | .cmCtrlEnable d => fld d 0 0 = 1
  | .bookingDoorbell _ _ => true
  | .registerWrite _ off sz8 _ => decide (off.toNat % (if sz8 then 8 else 4) = 0)
  | .identify p => packetIs p 0x01
  | .featureOffer p => packetIs p 0x02
  | .featureAccept p => packetIs p 0x03
  | .coreAlert p => packetIs p 0x04
  | .resetCoreOnly p => packetIs p 0x05
  | .resetHarnessSoft p => packetIs p 0x05
  | .fwLoad p _ => packetIs p 0x10
  | .harnessSet p => packetIs p 0x20
  | .harnessCommit p => packetIs p 0x21
  | .harnessDiscard p => packetIs p 0x22
  | .harnessRead p => packetIs p 0x23
  | .ttAdmit p => packetIs p 0x30
  | .ttAdmitDone => true
  | .ttWithdraw p => packetIs p 0x31
  | .stopCmd p => packetIs p 0x32
  | .selfTest p => packetIs p 0x40
  | .unitTestComplete u _ => unitOk u
  | .groupRescue _ => true
  | .fenceStrike u => unitOk u
  | .reinstate p => packetIs p 0x41
  | .syncDump p => packetIs p 0x50
  | .syncDumpDone err =>
    match err with
    | some o => decide (o.toNat < 0x25040)
    | none => true
  | .receiptPost _ => true
  | .notifyWrite _ => true
  | .energySample _ => true
  | .legEnergyWrite => true
  | .telemetryLost => true
  | .powerWindowEnd _ => true
  | .laneUp p => decide (p.toNat < 9)
  | .harnessCommitCheckDone => true

end Sys2Proof
end

