-- ==== Sys2Proof/Safety.lean ====
section
/-! DEFINITION. The predicates that statements about the block use: a core about to run an instruction, what an instruction or the
entry of a handler changes, and canonical tables. -/

namespace Sys2Proof.Machine

/-- The block runs, and no leg is about to open. -/
def State.live (s : State) : Bool := decide (s.phase = .run) && !s.opening

/-- No tensor instruction of the core is in flight or waits (R115, R174, R214, R322). -/
def State.noTensor (s : State) : Bool :=
  s.tensor.mx.all (fun o => o.slot.isSome) && s.tensor.vx.all (fun o => o.slot.isSome) && s.tensor.jobs.all (fun j => j.at_.isSome) &&
    s.core.younger.isEmpty && !s.core.going

/-- The core runs its next instruction now: it is running, no leg is about to open, no halt, breakpoint or eligible interrupt comes first
(R58, R337, R353, R455), and no tensor instruction of its own is in flight or waits (R115, R174, R322). -/
def State.ready (s : State) : Bool :=
  !s.opening && decide (s.core.run = .run) && !s.haltAsked && s.breakpoint.isNone && s.chosenIrq.isNone && s.noTensor

/-- As `ready`, for a tensor instruction: the stations are free and none of their units is under test (R115, R174, R214, R446). -/
def State.readyT (s : State) : Bool :=
  s.ready && !s.mxBusy && !s.tfBusy && !s.vxBusy && [1, 4, 5, 6].all (fun k => !s.testing k)

/-- Every table of the state is in canonical form (log 14). -/
def State.canonical (s : State) : Bool :=
  Table.wf resetOf s.regs && s.yard.mem.wf && s.tensor.tiles.wf && s.tensor.vregs.wf &&
    Table.wf (fun _ => (0 : BitVec 32)) s.tensor.accs && Table.wf (fun _ => (0 : BitVec 32)) s.yard.ctrs &&
    Table.wf (fun _ => (0 : Word)) s.yard.mbox

/-- From s to t general register rd receives v (g0 stays zero), the core goes on at p, and nothing else changes (R319). -/
def ResultAt (s t : State) (rd : Nat) (v p : Word) : Prop :=
  (∀ i, t.g i = if i = rd ∧ rd ≠ 0 then v else s.g i) ∧
    t = { s with core := { s.core with g := t.core.g, pc := p, passBp := s.core.passed } }

/-- As ResultAt, with the pc at the next instruction. -/
def Result (s t : State) (rd : Nat) (v : Word) : Prop := ResultAt s t rd v (s.core.pc + 4)

/-- A Yard address of the core: translation is off, the store buffer is empty, no frame is being saved, and n bytes at the offset
y lie in one naturally aligned unit of a core-owned group (R324, R336). -/
def State.coreYard (s : State) (va : Word) (y n : Nat) : Prop :=
  s.b SP_CTRL 0 = false ∧ s.core.sb = [] ∧ s.core.saves = [] ∧ va.toNat = s.yardPA y ∧ y % n = 0 ∧ y + n ≤ yardBytes ∧
    s.owned coreOnly y n = true

/-- The 64 words of the frame of an entry (R362): returned pc, status, cause, fault address, mask, origin with its predecessor,
TF_START, instruction word, g0 to g31, zeros. -/
def State.frameOf (s : State) (lvl code : Nat) (async : Bool) (fa pc : Word) (w : Insn) : List Word :=
  [pc, s.scStatus, BitVec.ofNat 64 (code + if async then 2 ^ 63 else 0), fa, BitVec.ofNat 64 (s.f (maskReg lvl) 3 0),
   BitVec.ofNat 64 (lvl * 2 ^ 30 + s.f SC_SEQ 29 0 + s.f (orgReg lvl) 31 0 * 2 ^ 32), s.rd TF_START,
   BitVec.ofNat 64 w.toNat] ++ (List.range 32).map s.g ++ List.replicate 24 0

/-- From s to t the handler of a cause is entered at level lvl (1 S, 2 M) with its frame at the physical address a (R359, R364):
privilege, mask, sequence number, origin, pc and frame; every other register but SC_TSB_S, and everything outside the core,
stays. -/
def Enters (s t : State) (lvl a code : Nat) (async : Bool) (fa pc : Word) (w : Insn) : Prop :=
  t.priv = lvl ∧ t.f (maskReg lvl) 3 0 = 15 ∧ t.f SC_SEQ 29 0 = (s.f SC_SEQ 29 0 + 1) % 2 ^ 30 ∧
  t.f (orgReg lvl) 31 0 = lvl * 2 ^ 30 + s.f SC_SEQ 29 0 ∧
  t.core.pc = s.handler lvl code ∧ t.core.run = .run ∧ t.core.g = s.core.g ∧
  t.core.saves = s.core.saves ++ [(a, s.frameOf lvl code async fa pc w)] ∧
  (∀ o, o ≠ SC_STATUS → o ≠ maskReg lvl → o ≠ SC_SEQ → o ≠ orgReg lvl → o ≠ SC_TSB_S → t.rd o = s.rd o) ∧
  { t with regs := s.regs, core := s.core } = s

/-- An entry to S at SC_TSB_S is possible (R359, R361). -/
def State.frameSOk (s : State) : Prop :=
  s.f SC_TSB_BASE_S 55 0 ≤ s.f SC_TSB_S 55 0 ∧ s.f SC_TSB_S 55 0 + 512 ≤ s.f SC_TSB_LIMIT_S 55 0 ∧
    s.frameOk (s.f SC_TSB_S 55 0) = true

/-- A tag instruction of the core reaches the word at the Yard offset y at once: translation is off, the store buffer is empty, the
address is that of the word, its group is not the Coachman's, its bank's tailboard port is free, and words read without error (R33,
R237 to R240). -/
def State.tagSite (s : State) (va : Word) (y : Nat) : Prop :=
  s.b SP_CTRL 0 = false ∧ s.core.sb = [] ∧ s.portFree (bankOf y) = true ∧ s.yard.bad = [] ∧ s.yard.weak = [] ∧ va.toNat = s.yardPA y ∧ y % 8 = 0 ∧
    y < yardBytes ∧ s.owner y < 4

/-- From s to t the word at offset y holds v with its tag as b; every other byte and tag of the Yard is as before (R235). -/
def WordSet (s t : State) (y : Nat) (v : Word) (b : Bool) : Prop :=
  t.yWord y = v ∧ inSet y t.yard.full = b ∧
    (∀ a, a < y ∨ y + 8 ≤ a → t.yard.mem.read a 1 = s.yard.mem.read a 1) ∧
    (∀ w, w ≠ y → inSet w t.yard.full = inSet w s.yard.full)

/-- From s to t the core has retired an instruction and runs on behind it; the general registers of rs (the first entry of a number
counts) have been written, g0 stays zero, and the others stay. -/
def Retired (s t : State) (rs : List (Nat × Word)) : Prop :=
  t.core.pc = s.core.pc + 4 ∧ t.core.run = .run ∧
    (∀ i, t.g i = if i = 0 then 0 else match rs.find? (fun p => decide (p.1 = i)) with | some p => p.2 | none => s.g i)

/-- The byte that a vector instruction in flight writes at an address of the register file, if any. -/
def VxOp.byteAt (op : VxOp) (a : Nat) : Option Byte := (op.wr.find? (fun p => decide (p.1 = a))).map (·.2)

/-- From s to t the core's vector instruction op has been accepted with duration D and latency L: its commit is due, the station is
occupied, the core goes on, and no register, mask, tile, accumulator or word of the Yard has changed (R214). -/
def VxAccepted (s t : State) (op : VxOp) (D L : Nat) : Prop :=
  t.tensor.vx = s.tensor.vx ++ [op] ∧ op.slot = none ∧ op.pc = s.core.pc ∧ op.due = s.time.toNat + D + L ∧
    (op.due, Instr.vxCommit) ∈ t.agenda ∧ t.tensor.vxBusy = s.time.toNat + D ∧ t.core.pc = s.core.pc + 4 ∧ t.core.g = s.core.g ∧
    t.regs = s.regs ∧ t.yard = s.yard ∧ { t.tensor with vx := s.tensor.vx, vxBusy := s.tensor.vxBusy } = s.tensor

/-- The instruction writes element e of size k of register v as `val` gives it, where it gives one, and no other byte (R202,
R205). -/
def VxOp.writes (op : VxOp) (v k : Nat) (val : Nat → Option Nat) : Prop :=
  (∀ e i, i < k → e < 2048 / k → op.byteAt (v * 2048 + k * e + i) = (val e).map (fun x => BitVec.ofNat 8 (x / 256 ^ i))) ∧
    (∀ a, a < v * 2048 ∨ (v + 1) * 2048 ≤ a → op.byteAt a = none)

/-- The magnitude of a finite encoding in units of the least positive one. -/
def Fmt.units (f : Fmt) (x : Nat) : Nat := if f.expo x = 0 then f.frac x else (2 ^ f.fb + f.frac x) * 2 ^ (f.expo x - 1)

/-- No line of a draw, landing, transfer, frame or slot operation is in progress, and no dump is being collected. -/
def State.quiet (s : State) : Bool :=
  s.mail.draws.isEmpty && s.relay.landing.isEmpty && s.relay.tx.isEmpty && s.yardMoves.isEmpty && s.tensor.jobs.isEmpty &&
    s.commits.isEmpty && s.coach.dump.isNone

/-- A slot reaches a quiet block at its cycle: it may issue, no INSPECT window is open, and no bank is taken after it and no one-cycle station is
taken (R23, R63, R76, R456). -/
def State.slotFree (s : State) (a : SlotAt) : Prop :=
  s.phase = .run ∧ s.quiet = true ∧ s.cycle ≤ a.cycle.toNat ∧ s.slotOk a = true ∧ s.seq.windows = [] ∧ s.seq.occupied = [] ∧
    ∀ b c, a.cycle.toNat < c → ((s.atCycle a.cycle.toNat).issued a).served 5 0 b c = true

/-- From u to t the lane of a slot has issued it, and the other lanes are as before (R63). -/
def Issued (u t : State) (a : SlotAt) : Prop :=
  (t.lane a.lane.toNat).next = a.idx.toNat + 1 ∧ (t.lane a.lane.toNat).last = u.cycle ∧
    (∀ i, i < 4 → i ≠ a.lane.toNat → t.lane i = u.lane i) ∧ t.cycle = u.cycle ∧ t.time = u.time

/-- The Coachman takes the next packet now (R394, R397): the rings are in use and undisturbed, a packet waits, four receipts fit, none
waits to be posted, UNS credits are not withheld, no packet's read fails, and no RESET type 1 is unanswered. -/
def State.taking (s : State) : Prop :=
  s.live = true ∧ s.b CM_CTRL 0 = true ∧ s.coach.noTake = false ∧ s.coach.badRead = none ∧ s.b RL_DRAG 63 = false ∧ s.coach.receipts = [] ∧
    s.core.resetSeq = none ∧ 0 < s.gap CM_BOOK_TAIL CM_BOOK_HEAD ∧ s.gap CM_BOOK_TAIL CM_BOOK_HEAD ≤ 2 ^ s.coach.rings.2.1 ∧
    s.gap CM_RCPT_TAIL CM_RCPT_HEAD + 4 ≤ 2 ^ s.coach.rings.2.2.2

/-- A packet has an opcode and a LENGTH, and is zero in its flags and reserved bytes (R398). -/
def packetForm (p : Packet) (op len : Nat) : Prop :=
  fld p 15 0 = op ∧ fld p 63 48 = len ∧ fld p 47 32 = 0 ∧ fld p 127 64 = 0 ∧ fld p 511 (128 + 8 * len) = 0

/-- From s to t the Coachman has taken a packet: the head index and the count have moved on, registers `regs` may have changed, the
Coachman is as k, and nothing else has changed but the record of what happened to registers in this ACLK (R394, log 46). -/
def Took (s t : State) (regs : List Nat) (k : Coach) : Prop :=
  t = { s with regs := t.regs, hw := t.hw, coach := k } ∧ t.f CM_BOOK_HEAD 31 0 = (s.f CM_BOOK_HEAD 31 0 + 1) % 2 ^ 32 ∧
    t.f CM_CNT_PACKETS 47 0 = min (s.f CM_CNT_PACKETS 47 0 + 1) (2 ^ 48 - 1) ∧
    ∀ o, o ∉ [CM_BOOK_HEAD, CM_CNT_PACKETS, CM_CNT_SATFLAGS] ++ regs → t.rd o = s.rd o

/-- From s to t packet p has been taken and answered with one receipt, final unless it is DEFERRED (R399, R400). -/
def Answered (s t : State) (p : Packet) (st : Byte) (detail d16 d24 : Word) (regs : List Nat) (k : Coach) : Prop :=
  Took s t regs { k with receipts := [⟨p.setWidth 16, p.extractLsb' 16 16, st, decide (st ≠ 1), false, detail, d16, d24⟩] }

/-- The commands that carry a packet, by opcode; RESET by its TYPE. -/
def bookings (p : Packet) : List (Nat × Instr) :=
  [(0x01, .identify p), (0x02, .featureOffer p), (0x03, .featureAccept p), (0x04, .coreAlert p), (0x10, .fwLoad p none),
   (0x20, .harnessSet p), (0x21, .harnessCommit p), (0x22, .harnessDiscard p), (0x23, .harnessRead p), (0x30, .ttAdmit p),
   (0x31, .ttWithdraw p), (0x32, .stopCmd p), (0x40, .selfTest p), (0x41, .reinstate p), (0x50, .syncDump p)]

end Sys2Proof.Machine
end

