-- ==== Sys2Proof/Certificates/Slice0/Obligations.lean ====
section
/-! DEFINITION. The statements about the block. A statement whose title says so rests on a choice of the model, named by its log
entry; the others follow the rules of spec/ that OBLIGATIONS.json cites. -/

open Sys2Proof Sys2Proof.Machine

/-! ## The step -/

/-- A step takes the command at the front of the queue and runs it with the queue's rest; every command answers a next state, in every
state. Rests also on log 1. -/
def Obligations.StepRunsFront : Prop :=
  (∀ (c : Instr) (rest : List Instr) (s : State), step { s with pending := c :: rest } = exec c { s with pending := rest }) ∧
    ∀ (c : Instr) (s : State), ∃ t, exec c s = .next t

/-! ## The scalar core -/

/-- R319, R323 (log 6): integer operations, shifts by less than 64 and bit fields inside a register write one register, g0 stays
zero, the core goes on behind the instruction, and nothing else changes. -/
def Obligations.ScalarResults : Prop :=
  (∀ (s : State) (rd ra rb rc : BitVec 5) (imm : Word), s.ready = true →
     let a := s.g ra.toNat
     let val := fun (op : IntOp) (x y : Word) => match op with
       | .add => x + y
       | .sub => x - y
       | .and => x &&& y
       | .or => x ||| y
       | .xor => x ^^^ y
       | .slt => if x.toInt < y.toInt then 1 else 0
       | .sltu => if x.toNat < y.toNat then (1 : Word) else 0
     (∀ op, ∃ t, exec (.integerRegReg op rd ra rb) s = .next t ∧ Result s t rd.toNat (val op a (s.g rb.toNat))) ∧
     (∀ op, ∃ t, exec (.integerRegImm op rd ra imm) s = .next t ∧ Result s t rd.toNat (val op a imm)) ∧
     (∃ t, exec (.loadUpperImmediate false rd imm) s = .next t ∧ Result s t rd.toNat imm) ∧
     (∃ t, exec (.loadUpperImmediate true rd imm) s = .next t ∧ Result s t rd.toNat (s.core.pc + imm)) ∧
     (∃ t, exec (.multiply rd ra rb) s = .next t ∧ Result s t rd.toNat (a * s.g rb.toNat)) ∧
     (∃ t, exec (.conditionalSelect rd ra rb rc) s = .next t ∧
       Result s t rd.toNat (if s.g rc.toNat = 0 then s.g rb.toNat else a))) ∧
  (∀ (s : State) (rd ra rb : BitVec 5) (p l : BitVec 6), s.ready = true →
     let a := s.g ra.toNat
     let n := (s.g rb.toNat).toNat
     (n < 64 →
       (∃ t, exec (.shiftBitfield .sll rd ra (.reg rb)) s = .next t ∧ Result s t rd.toNat (a <<< n)) ∧
       (∃ t, exec (.shiftBitfield .srl rd ra (.reg rb)) s = .next t ∧ Result s t rd.toNat (a >>> n)) ∧
       (∃ t, exec (.shiftBitfield .sra rd ra (.reg rb)) s = .next t ∧ Result s t rd.toNat (a.sshiftRight n))) ∧
     (0 < l.toNat → p.toNat + l.toNat ≤ 64 →
       (∃ t, exec (.shiftBitfield .extractU rd ra (.imm p l)) s = .next t ∧
         Result s t rd.toNat (BitVec.ofNat 64 (a.toNat / 2 ^ p.toNat % 2 ^ l.toNat))) ∧
       (let v : Nat := a.toNat / 2 ^ p.toNat % 2 ^ l.toNat
        ∃ t, exec (.shiftBitfield .extractS rd ra (.imm p l)) s = .next t ∧
         Result s t rd.toNat (if 2 ^ (l.toNat - 1) ≤ v then BitVec.ofInt 64 ((v : Int) - 2 ^ l.toNat) else BitVec.ofNat 64 v)) ∧
       (∃ t v, exec (.shiftBitfield .insert rd ra (.imm p l)) s = .next t ∧ Result s t rd.toNat v ∧
         ∀ i, v.getLsbD i = if p.toNat ≤ i ∧ i < p.toNat + l.toNat then a.getLsbD (i - p.toNat) else (s.g rd.toNat).getLsbD i)))

/-- R325: division and remainder, with −2^63 by −1; a divisor of zero raises DIV_ZERO instead. Rests also on log 6. -/
def Obligations.Divide : Prop :=
  ∀ (s : State) (rd ra rb : BitVec 5), s.ready = true →
    let a := s.g ra.toNat
    let b := s.g rb.toNat
    (b ≠ 0 →
      (∃ t, exec (.div rd ra rb) s = .next t ∧ Result s t rd.toNat (BitVec.ofInt 64 (a.toInt.tdiv b.toInt))) ∧
      (∃ t, exec (.rem rd ra rb) s = .next t ∧ Result s t rd.toNat (BitVec.ofInt 64 (a.toInt.tmod b.toInt))) ∧
      (∃ t, exec (.divu rd ra rb) s = .next t ∧ Result s t rd.toNat (BitVec.ofNat 64 (a.toNat / b.toNat))) ∧
      (∃ t, exec (.remu rd ra rb) s = .next t ∧ Result s t rd.toNat (BitVec.ofNat 64 (a.toNat % b.toNat))) ∧
      (a = BitVec.ofInt 64 (-2 ^ 63) → b = BitVec.allOnes 64 →
        (∃ t, exec (.div rd ra rb) s = .next t ∧ Result s t rd.toNat a) ∧
        (∃ t, exec (.rem rd ra rb) s = .next t ∧ Result s t rd.toNat 0))) ∧
    (b = 0 → ∀ c ∈ [Instr.div rd ra rb, .rem rd ra rb, .divu rd ra rb, .remu rd ra rb],
      ∃ w : BitVec 26, exec c s = .next (s.syncFault .divZero 0 s.core.pc (0x04#6 ++ w)))

/-- R323 (log 6): branches and jumps. -/
def Obligations.Branches : Prop :=
  ∀ (s : State) (rd ra rb : BitVec 5) (disp : Word) (c : Cond), s.ready = true →
    let a := s.g ra.toNat
    let b := s.g rb.toNat
    let met := match c with
      | .eq => decide (a = b)
      | .ne => decide (a ≠ b)
      | .lt => decide (a.toInt < b.toInt)
      | .ge => decide (b.toInt ≤ a.toInt)
      | .ltu => decide (a.toNat < b.toNat)
      | .geu => decide (b.toNat ≤ a.toNat)
    (∃ t, exec (.conditionalBranch c ra rb disp) s = .next t ∧
      ResultAt s t 0 0 (if met then s.core.pc + disp else s.core.pc + 4)) ∧
    (∃ t, exec (.jumpAndLink rd disp) s = .next t ∧ ResultAt s t rd.toNat (s.core.pc + 4) (s.core.pc + disp)) ∧
    (∃ t, exec (.jumpAndLinkRegister rd ra disp) s = .next t ∧
      ResultAt s t rd.toNat (s.core.pc + 4) ((a + disp) &&& ~~~(3 : Word)))

/-- R210 to R212, R323 (log 6): a scalar floating-point operation writes its result in binary64 or binary32 as the format's arithmetic
rounds it, adds its sticky flags to SC_FFLAGS, and changes nothing else; the upper half of a binary32 result is a free value (log 7).
Negation and absolute value change only the sign bit; a comparison gives 1 or 0. -/
def Obligations.ScalarFloat : Prop :=
  ∀ (s : State) (op : FpOp) (dbl : Bool) (rd ra rb rc : BitVec 5), s.ready = true →
    let f := if dbl then f64 else f32
    let width := if dbl then 64 else 32
    let num := fun (x : Word) => x.toNat % 2 ^ width
    let x := num (s.g ra.toNat)
    let y := num (s.g rb.toNat)
    let z := num (s.g rc.toNat)
    let truth := fun (p : Bool × FFlags) => ((if p.1 then 1 else 0 : Nat), p.2)
    let expected : Nat × FFlags := match op with
      | .add => f.fadd x y
      | .sub => f.fsub x y
      | .mul => f.fmul x y
      | .div => f.fdiv x y
      | .min => f.fmin x y
      | .max => f.fmax x y
      | .fma => f.ffma false x y z
      | .fnma => f.ffma true x y z
      | .sqrt => f.fsqrt x
      | .neg => (x ^^^ 2 ^ (width - 1), 0)
      | .abs => (x % 2 ^ (width - 1), 0)
      | .rndi => f.frndi x
      | .cmpEq => truth (f.cmpEq x y)
      | .cmpLt => truth (f.cmpLt x y)
      | .cmpLe => truth (f.cmpLe x y)
      | .cvt => if dbl then f32.cvt f64 (x % 2 ^ 32) else f64.cvt f32 (s.g ra.toNat).toNat
    ∃ t v, exec (.scalarFp op dbl rd ra rb rc) s = .next t ∧ num v = expected.1 ∧
      (op = .cmpEq ∨ op = .cmpLt ∨ op = .cmpLe → v.toNat = expected.1) ∧
      (∀ i, t.g i = if i = rd.toNat ∧ rd ≠ 0 then v else s.g i) ∧
      t.rd SC_FFLAGS = s.rd SC_FFLAGS ||| BitVec.ofNat 64 expected.2.toNat ∧ (∀ o, o ≠ SC_FFLAGS → t.rd o = s.rd o) ∧
      t.core.pc = s.core.pc + 4 ∧ { t with regs := s.regs, hw := s.hw, core := s.core } = s

/-- R324, R326, R336: a load of 1, 2, 4 or 8 bytes from a core-owned group gives the bytes of the Yard, little-endian, zero- or
sign-extended; a misaligned address raises ALIGN, for stores too. Rests also on log 6. -/
def Obligations.YardLoad : Prop :=
  ∀ (s : State) (sz : BitVec 2) (sg : Bool) (rd ra : BitVec 5) (disp : Word) (o : Outside) (y : Nat), s.ready = true →
    let n := 2 ^ sz.toNat
    let va := s.g ra.toNat + disp
    let v := s.yard.mem.num y n
    (s.coreYard va y n → s.badIn y n = [] → s.weakIn y n = [] →
      ∃ t, exec (.loadMem sz sg rd ra disp o) s = .next t ∧
        Result s t rd.toNat (if sg ∧ 2 ^ (8 * n - 1) ≤ v then BitVec.ofInt 64 (v - 2 ^ (8 * n)) else BitVec.ofNat 64 v)) ∧
    (va.toNat % n ≠ 0 →
      (∃ w : BitVec 26, exec (.loadMem sz sg rd ra disp o) s = .next (s.syncFault .align va s.core.pc (0x08#6 ++ w))) ∧
      ∀ bg, ∃ w : BitVec 26, exec (.storeMem sz rd ra disp bg o) s = .next (s.syncFault .align va s.core.pc (0x09#6 ++ w)))

/-- R326, R328: a store to a core-owned group is held in a new store-buffer entry of class Yard, and nothing outside the core
changes; when an entry of class Yard drains, exactly its bytes are written, with the tags as they were. Rests also on log 6. -/
def Obligations.YardStore : Prop :=
  (∀ (s : State) (sz : BitVec 2) (rs ra : BitVec 5) (disp : Word) (bg : Bool) (o : Outside) (y : Nat), s.ready = true →
    let n := 2 ^ sz.toNat
    s.coreYard (s.g ra.toNat + disp) y n →
    ∃ t, exec (.storeMem sz rs ra disp bg o) s = .next t ∧
      t.core.sb = [⟨s.yardPA y / 64, .yard, (List.range n).map (fun i => (y % 64 + i, BitVec.ofNat 8 ((s.g rs.toNat).toNat / 256 ^ i)))⟩] ∧
      t = { s with core := { s.core with pc := s.core.pc + 4, passBp := s.core.passed, sb := t.core.sb, l1d := t.core.l1d } }) ∧
  (∀ (s : State) (e : SbEntry) (rest : List SbEntry) (o : Outside) (y : Nat), s.opening = false → s.core.sb = e :: rest → e.cls = .yard →
    e.line * 64 = s.yardPA y → y + 64 ≤ yardBytes → s.owned coreOnly y 64 = true →
    (∀ p ∈ e.bytes, p.1 < 64) → (e.bytes.map (·.1)).Nodup →
    ∃ t, exec (.storeBufferDrain o) s = .next t ∧ t.core.sb = rest ∧
      (∀ p ∈ e.bytes, t.yard.mem.read (y + p.1) 1 = [p.2]) ∧
      (∀ a, (∀ p ∈ e.bytes, a ≠ y + p.1) → t.yard.mem.read a 1 = s.yard.mem.read a 1) ∧
      t.yard.full = s.yard.full ∧ t.regs = s.regs ∧ t.core.g = s.core.g)

/-- R15, R49, R323, R344, R351, R359, R360, R362, R364: SVC at U enters S with cause SERVICE, its code as the fault address and the pc
of the instruction behind it; a synchronous fault at U enters S with its own cause and the pc of the instruction, and SC_TSB_S advances by
512; a word of an opcode that no instruction has enters with ILLEGAL_OP. While DF is 1 every synchronous fault resets the core only: it
stops, and SC_RSTINFO records its cause as the second. -/
def Obligations.FaultEntry : Prop :=
  (∀ (s : State), s.ready = true → s.priv = 0 → s.b SC_STATUS 2 = false → s.frameSOk →
     let a := s.f SC_TSB_S 55 0
     (∀ imm : BitVec 16,
       let w : Insn := 0x38#6 ++ 1#4 ++ 0#6 ++ imm
       ∃ t, exec (.svc w) s = .next t ∧ Enters s t 1 a 0x05 false (imm.setWidth 64) (s.core.pc + 4) w ∧
         t.f SC_TSB_S 55 0 = a + 512) ∧
     (∀ (c : Cause) (fa : Word) (w : Insn), s.stationBusy w = false →
       (c ≠ .service → opcodeAssigned w = true →
         ∃ t, exec (.syncFaultEntry c fa w) s = .next t ∧ Enters s t 1 a (causeCode c) false fa s.core.pc w ∧
           t.f SC_TSB_S 55 0 = a + 512) ∧
       (opcode w ∈ [0x06, 0x07, 0x0A, 0x0B, 0x0F, 0x11, 0x1F, 0x26, 0x27, 0x2D, 0x2E, 0x2F, 0x35, 0x36, 0x37, 0x3C, 0x3D, 0x3E, 0x3F] →
         ∃ t, exec (.syncFaultEntry c fa w) s = .next t ∧ Enters s t 1 a 0x01 false 0 s.core.pc w ∧ t.f SC_TSB_S 55 0 = a + 512))) ∧
  (∀ (s : State) (c : Cause) (fa : Word) (w : Insn), s.ready = true → s.b SC_STATUS 2 = true → opcodeAssigned w = true →
     s.stationBusy w = false →
     ∃ t, exec (.syncFaultEntry c fa w) s = .next t ∧ t.core.run = .resetting ∧ t.b SC_RSTINFO 63 = true ∧
       t.f SC_RSTINFO 7 0 = causeCode c ∧ t.f SC_RSTINFO 15 8 = s.core.dfCause.toNat ∧ t.yard.mem = s.yard.mem)

/-- R337, R351, R359, R362: an interrupt routed to S is taken at U with its code, ASYNC and no instruction word, and one routed to M
enters M at SC_TSB_M; SC_TSB_S advances only with a frame at S. -/
def Obligations.InterruptEntry : Prop :=
  ∀ (s : State) (c : Nat), s.live = true → s.core.run = .run → s.core.wait = none → s.noTensor = true → s.yard.room = [] →
    s.yard.wakes = [] → s.yard.ungating = [] → s.yard.tail = [] → s.priv = 0 → s.chosenIrq = some c →
    let fa : Word := if c = 0x19 then s.rd SC_LBE_ADDR else 0
    (s.irqToM c = false → s.frameSOk →
      ∃ t, exec .interruptRecognition s = .next t ∧ Enters s t 1 (s.f SC_TSB_S 55 0) c true fa s.core.pc 0 ∧
        t.f SC_TSB_S 55 0 = s.f SC_TSB_S 55 0 + 512) ∧
    (s.irqToM c = true → s.frameOk (s.f SC_TSB_M 55 0) = true →
      ∃ t, exec .interruptRecognition s = .next t ∧ Enters s t 2 (s.f SC_TSB_M 55 0) c true fa s.core.pc 0 ∧
        t.rd SC_TSB_S = s.rd SC_TSB_S)

/-- R352: where an interrupt is routed, when a pending one is eligible, and that one routed to S is never eligible at M. -/
def Obligations.Eligible : Prop :=
  ∀ (s : State) (c : Nat),
    (s.irqToM c = true ↔ s.b SC_ROUTE c = true ∨ c = 0x28 ∨ c = 0x29) ∧
    (s.eligible c = true ↔ s.irqPending c = true ∧ s.irqLevel c ≠ 0 ∧
      ((s.irqToM c = false ∧ (s.priv = 0 ∨ s.priv = 1) ∧ s.f SC_MASK_S 3 0 < s.irqLevel c) ∨
       (s.irqToM c = false ∧ (s.priv = 0 ∨ s.priv = 1) ∧ s.irqLevel c = 15) ∨
       (s.irqToM c = true ∧ s.f SC_MASK_M 3 0 < s.irqLevel c) ∨
       (s.irqToM c = true ∧ s.irqLevel c = 15 ∧ s.b SC_STATUS 2 = false))) ∧
    (s.irqToM c = false → s.priv = 2 → s.eligible c = false)

/-- R328, R343, R344, R363: FENCE and IFLUSH complete once every store-buffer entry has drained, from the head on, FENCE with the frame
saves done too and IFLUSH with the L1I empty; entries of class Yard are then in the Yard, written in order. WAITI waits with the pc behind
it (log 38). -/
def Obligations.FenceFlushWait : Prop :=
  ∀ (s : State) (o : Outside), s.ready = true →
    let d := (List.range s.core.sb.length).foldl (fun (u : State) _ => u.drainHead o) s
    let fenced := d.finishSaves o
    (fenced.eligible 0x19 = false →
      exec (.fence 0xE0C00000 o) s = .next (fenced.retire (s.core.pc + 4)) ∧ fenced.core.sb = [] ∧ fenced.core.saves = []) ∧
    exec (.iflush 0xE0800000 o) s = .next (({ d with core := { d.core with l1i := [] } } : State).retire (s.core.pc + 4)) ∧
    d.core.sb = [] ∧
    ((∀ e ∈ s.core.sb, e.cls = .yard ∧ ∃ y, e.line * 64 = s.yardPA y ∧ y + 64 ≤ yardBytes ∧ s.owned coreOnly y 64 = true ∧
        (∀ p ∈ e.bytes, p.1 < 64)) → s.core.saves = [] →
      let m := s.core.sb.foldl (fun m e => e.bytes.foldl (fun m p => Mem.write m (e.line * 64 - s.yardPA 0 + p.1) [p.2]) m) s.yard.mem
      ∃ t u, exec (.fence 0xE0C00000 o) s = .next t ∧ exec (.iflush 0xE0800000 o) s = .next u ∧ t.yard.mem = m ∧ u.yard.mem = m ∧
        t.core.sb = [] ∧ u.core.sb = [] ∧ u.core.l1i = [] ∧ t.yard.full = s.yard.full ∧ t.regs = s.regs ∧ t.core.g = s.core.g ∧
        t.core.pc = s.core.pc + 4 ∧ u.core.g = s.core.g ∧ u.core.pc = s.core.pc + 4) ∧
    exec (.waiti 0xE1000000) s =
      .next { s with core := { s.core with pc := s.core.pc + 4, passBp := s.core.passed, run := .waiti } }

/-- R345, R367, R392: MFS gives the register as it reads, MTS writes the RW bits of a register (here SC_MASK_S, SC_TCMP, SC_TSB_S and
SC_DOORBELL at S), and an access below a register's privilege raises PRIV. -/
def Obligations.SystemRegisters : Prop :=
  ∀ (s : State) (n : BitVec 11) (g : BitVec 5) (o : Outside), s.ready = true →
    let off := 0x70000 + 8 * n.toNat
    let mfs : Insn := 0x39#6 ++ 0#1 ++ 0#1 ++ n ++ 0#8 ++ g
    let mts : Insn := 0x39#6 ++ 1#1 ++ 0#1 ++ n ++ 0#8 ++ g
    (off ∈ [SC_MASK_S, SC_VBASE_S, SC_TSB_S, SC_ORIGIN_S, SC_TCMP, SC_IRQLEVEL, SC_DOORBELL, SC_SEQ, SC_TSB_BASE_S] →
      (1 ≤ s.priv → ∃ t, exec (.mfs mfs) s = .next t ∧ Result s t g.toNat (s.rd off)) ∧
      (s.priv = 0 → exec (.mfs mfs) s = .next (s.syncFault .priv 0 s.core.pc mfs))) ∧
    (∀ m : Word, (off, m) ∈ [(SC_MASK_S, 0xF), (SC_TCMP, BitVec.allOnes 64), (SC_TSB_S, 0x00FFFFFFFFFFFE00), (SC_DOORBELL, 0x800000001FFFFFF8)] →
      (1 ≤ s.priv → s.core.sb = [] → s.held off = 0 →
        exec (.mts mts o) s =
          .next ((s.wr off ((s.rd off &&& ~~~m) ||| (s.g g.toNat &&& m))).retire (s.core.pc + 4))) ∧
      (s.priv = 0 → exec (.mts mts o) s = .next (s.syncFault .priv 0 s.core.pc mts)))

/-- R327, R330, R331, R334, R335: at S and M invalidate by set and way takes its line out of the L1D, the L1I, or the L2 with both
above it; clean by set and way writes a dirty line of the L2 out and keeps it. At U every set/way form, and invalidate by address,
raises PRIV. A fill of an absent line steps the LFSR and takes the lowest invalid way of its set, or in a full set the way the LFSR then
names. -/
def Obligations.Caches : Prop :=
  (∀ (s : State) (g : BitVec 5) (o : Outside), s.ready = true →
     let word := fun (op cache : BitVec 2) (form : Bool) => (0x3A#6 ++ op ++ cache ++ BitVec.ofBool form ++ 0#16 ++ g : Insn)
     let v := s.g g.toNat
     (1 ≤ s.priv → s.core.saves = [] → s.core.sb = [] →
       let gone := fun (k : Core) => ({ s with core := { k with pc := s.core.pc + 4, passBp := s.core.passed } } : State)
       (∀ (line way : Nat), way < 4 → fld v 10 0 = line % 256 → fld v 19 16 = way →
         ((∃ d, (line, way, d) ∈ s.core.l1d) → (∀ p ∈ s.core.l1d, p.1 % 256 = line % 256 → p.2.1 = way → p.1 = line) →
           exec (.cmo (word 1 0 true) o) s = .next (gone { s.core with l1d := s.core.l1d.filter (fun p => decide (p.1 ≠ line)) })) ∧
         ((∃ d, (line, way, d) ∈ s.core.l1i) → (∀ p ∈ s.core.l1i, p.1 % 256 = line % 256 → p.2.1 = way → p.1 = line) →
           exec (.cmo (word 1 1 true) o) s = .next (gone { s.core with l1i := s.core.l1i.filter (fun p => decide (p.1 ≠ line)) }))) ∧
       (∀ x ∈ s.core.l2, x.set < 2048 → x.way < 16 → fld v 10 0 = x.set → fld v 19 16 = x.way →
         (∀ y ∈ s.core.l2, y.set = x.set → y.way = x.way ∨ y.tag = x.tag → y = x) →
         let line := x.tag * 2048 + x.set
         exec (.cmo (word 1 2 true) o) s = .next (gone { s.core with
           l1d := s.core.l1d.filter (fun p => decide (p.1 ≠ line)), l1i := s.core.l1i.filter (fun p => decide (p.1 ≠ line)),
           l2 := s.core.l2.filter (fun y => !(decide (y.set = x.set) && decide (y.way = x.way))) }) ∧
         (x.dirty = true → x.err = .ok → o.wrBad (line * 64) 64 = none →
           ∃ t, exec (.cmo (word 0 2 true) o) s = .next t ∧ t.out = s.out ++ [.fabWrite .ctl (line * 64) (lineBytes x.data)] ∧
             t.core.l2 = s.core.l2.filter (fun y => !(decide (y.set = x.set) && decide (y.way = x.way))) ++ [{ x with dirty := false }] ∧
             t.core.l1d = s.core.l1d ∧ t.core.pc = s.core.pc + 4 ∧ t.core.g = s.core.g ∧ t.regs = s.regs ∧ t.yard = s.yard))) ∧
     (s.priv = 0 → ∀ (op cache : BitVec 2) (form : Bool), op ≠ 3 → op ≠ 0 ∨ form = true →
       (form = true → cache ≠ 3 ∧ (cache.toNat < 2 → fld v 10 0 ≤ 255 ∧ fld v 19 16 ≤ 3)) →
       exec (.cmo (word op cache form) o) s = .next (s.syncFault .priv 0 s.core.pc (word op cache form)))) ∧
  (∀ (s : State) (line : PAddr) (code : Bool) (o : Outside) (bs : List Byte) (way : Nat), s.opening = false → way < 16 →
     let set := line.toNat / 64 % 2048
     let tag := line.toNat / 64 / 2048
     let step := fun (x : BitVec 16) => (x.toNat * 2 + (x.getLsbD 15 ^^ x.getLsbD 13 ^^ x.getLsbD 12 ^^ x.getLsbD 10).toNat) % 2 ^ 16
     (∀ x ∈ s.core.l2, x.set = set → x.tag ≠ tag) → o.get (line.toNat / 64 * 64) 64 = some bs →
     ((∀ x ∈ s.core.l2, x.set = set → x.way ≠ way) ∧ (∀ w < way, ∃ x ∈ s.core.l2, x.set = set ∧ x.way = w)) ∨
       ((∀ w < 16, ∃ x ∈ s.core.l2, x.set = set ∧ x.way = w) ∧ way = step s.core.lfsr % 16 ∧
         (∀ x ∈ s.core.l2, x.set = set → x.way = way → x.dirty = false)) →
     ∃ t, exec (.l2Fill line code o) s = .next t ∧
       t.core.l2 = s.core.l2.filter (fun y => !(decide (y.set = set) && decide (y.way = way))) ++ [⟨set, way, tag, false, ofLine bs, .ok⟩] ∧
       t.core.lfsr.toNat = step s.core.lfsr ∧ t.out = s.out ∧
       t.core.g = s.core.g ∧ t.yard = s.yard ∧ t.regs = s.regs)

/-- R363, R365, R366: the pending frame save writes its 512 bytes into a core-owned group, and SAVING ends; RETX at S through a frame in
a core-owned group restores pc, level, mask, g1 to g31 and TF_START, and steps SC_TSB_S and SC_ORIGIN_S back. -/
def Obligations.Frames : Prop :=
  (∀ (s : State) (o : Outside) (y : Nat) (ws : List Word), s.opening = false → s.core.saves = [(s.yardPA y, ws)] → ws.length = 64 → y % 64 = 0 →
     y + 512 ≤ yardBytes → (∀ k < 8, s.owned coreOnly (y + 64 * k) 64 = true) →
     ∃ t, exec (.tsbSaveComplete o) s = .next t ∧ t.core.saves = [] ∧
       (∀ i (h : i < ws.length), BitVec.ofNat 64 (t.yard.mem.num (y + 8 * i) 8) = ws[i]) ∧
       (∀ a, a < y ∨ y + 512 ≤ a → t.yard.mem.read a 1 = s.yard.mem.read a 1) ∧ t.yard.full = s.yard.full ∧ t.regs = s.regs) ∧
  (∀ (s : State) (o : Outside) (y : Nat), s.ready = true → s.priv = 1 → s.core.sb = [] → s.core.saves = [] →
     s.f SC_TSB_S 55 0 = s.yardPA y + 512 → s.f SC_TSB_BASE_S 55 0 ≤ s.yardPA y → y % 64 = 0 → y + 512 ≤ yardBytes →
     (∀ k < 8, s.owned coreOnly (y + 64 * k) 64 = true) → s.yard.bad = [] → s.yard.weak = [] → s.held TF_START = 0 →
     let W := fun (i : Nat) => s.yard.mem.num (y + 8 * i) 8
     W 1 % 4 ≤ 1 → W 5 % 2 ^ 32 = s.f SC_ORIGIN_S 31 0 →
     ∃ t, exec (.retx 0xE0000000 o) s = .next t ∧ t.core.pc = BitVec.ofNat 64 (W 0 / 4 * 4) ∧ t.priv = W 1 % 4 ∧
       t.f SC_MASK_S 3 0 = W 4 % 16 ∧ (∀ i, 0 < i → i < 32 → t.g i = BitVec.ofNat 64 (W (8 + i))) ∧
       t.f SC_TSB_S 55 0 = s.yardPA y ∧ t.f SC_ORIGIN_S 31 0 = W 5 / 2 ^ 32 ∧ t.b TF_START 63 = (BitVec.ofNat 64 (W 6)).getLsbD 63 ∧
       t.f TF_START 21 16 = fld (BitVec.ofNat 64 (W 6)) 21 16 ∧ t.f TF_START 35 32 = fld (BitVec.ofNat 64 (W 6)) 35 32 ∧
       t.f TF_START 3 0 = fld (BitVec.ofNat 64 (W 6)) 3 0 ∧
       (∀ r, r ≠ SC_STATUS → r ≠ SC_MASK_S → r ≠ SC_TSB_S → r ≠ SC_ORIGIN_S → r ≠ TF_START → t.rd r = s.rd r) ∧
       { t with regs := s.regs, core := s.core } = s)

/-! ## Spans -/

/-- R372, R374, R379, R380, R384: a walk over a table of one entry that covers the address, held in a core-owned group, loads the entry
into the next refilled register and steps NEXT; SPINV form 0 at S or M invalidates registers 16 to 31, keeps the pinned ones and makes
16 the next; at U it raises PRIV. Rests also on log 38. -/
def Obligations.SpanRegisters : Prop :=
  (∀ (s : State) (va : Word) (w : Insn) (o : Outside) (y : Nat), s.ready = true → s.b SP_CTRL 0 = true → va.toNat < 2 ^ 56 →
     (∀ i < 32, s.b (SP_SPAN_W3 i) 63 = false) → s.f SP_TABLE 55 0 = s.yardPA y → s.f SP_TABLEN 12 0 = 1 → y % 32 = 0 →
     y + 32 ≤ yardBytes → s.owned coreOnly y 32 = true → s.yard.bad = [] → s.yard.weak = [] →
     let W := fun (i : Nat) => (BitVec.ofNat 64 (s.yard.mem.num (y + 8 * i) 8) : Word)
     let n := s.f SP_REFILL 4 0
     16 ≤ n → s.malformed [W 0, W 1, W 2, W 3] = false → (W 3).getLsbD 63 = true →
     fld (W 0) 55 16 * 65536 ≤ va.toNat → va.toNat < fld (W 0) 55 16 * 65536 + fld (W 1) 39 0 * 65536 →
     ∃ t, exec (.spanWalk va w o) s = .next t ∧
       (∀ i < 4, t.rd (SP_SPAN_W0 n + 8 * i) = W i) ∧ t.f SP_REFILL 4 0 = (if n = 31 then 16 else n + 1) ∧
       t.core.pc = s.core.pc ∧ t.core.g = s.core.g ∧ t.yard = s.yard) ∧
  (∀ (s : State) (o : Outside), s.ready = true →
     (1 ≤ s.priv → s.core.sb = [] →
       ∃ t, exec (.spinv 0xEC000000 o) s = .next t ∧ (∀ i, 16 ≤ i → i < 32 → t.b (SP_SPAN_W3 i) 63 = false) ∧
         (∀ i < 16, t.rd (SP_SPAN_W3 i) = s.rd (SP_SPAN_W3 i)) ∧ t.f SP_REFILL 4 0 = 16 ∧ t.core.pc = s.core.pc + 4 ∧
         t.core.g = s.core.g) ∧
     (s.priv = 0 → exec (.spinv 0xEC000000 o) s = .next (s.syncFault .priv 0 s.core.pc 0xEC000000)))

/-! ## Tags, counters, mailboxes -/

/-- R237, R238: YPUT, YTAKE and YPEEK on a word of the own Yard that meets their condition; with nw, one that does not meet it reports
failure in gs, changes nothing else of the Yard, and counts in YD_NWFAIL_CNT. YFILL and YEMPTY set the tag whatever it was, at S and M;
YTAG reads it. Rests also on log 11. -/
def Obligations.TagInstructions : Prop :=
  (∀ (s : State) (nw : Bool) (gs gd ga : BitVec 5) (o : Outside) (y : Nat), s.ready = true → (nw = false → gs = 0) →
     s.tagSite (s.g ga.toNat) y →
     let op := fun (sub : BitVec 2) => (0x30#6 ++ sub ++ BitVec.ofBool nw ++ 0#1 ++ 0#7 ++ gs ++ gd ++ ga : Insn)
     let st := if nw then [(gs.toNat, (1 : Word))] else []
     let v := s.yWord y
     (inSet y s.yard.full = false →
       ∃ t, exec (.yput (op 0) o) s = .next t ∧ WordSet s t y (s.g gd.toNat) true ∧ Retired s t st) ∧
     (inSet y s.yard.full = true →
       (∃ t, exec (.ytake (op 1) o) s = .next t ∧ WordSet s t y v false ∧ Retired s t (st ++ [(gd.toNat, v)])) ∧
       (∃ t, exec (.ypeek (op 2) o) s = .next t ∧ WordSet s t y v true ∧ Retired s t (st ++ [(gd.toNat, v)])))) ∧
  (∀ (s : State) (gs gd ga : BitVec 5) (o : Outside) (y : Nat), s.ready = true → s.tagSite (s.g ga.toNat) y →
     let op := fun (sub : BitVec 2) => (0x30#6 ++ sub ++ 1#1 ++ 0#1 ++ 0#7 ++ gs ++ gd ++ ga : Insn)
     let fails := fun (c : Instr) => ∃ t, exec c s = .next t ∧ t.yard = { s.yard with served := t.yard.served } ∧ Retired s t [(gs.toNat, 0)] ∧
       t.f YD_NWFAIL_CNT 47 0 = min (s.f YD_NWFAIL_CNT 47 0 + 1) (2 ^ 48 - 1)
     (inSet y s.yard.full = true → fails (.yput (op 0) o)) ∧
     (inSet y s.yard.full = false → fails (.ytake (op 1) o) ∧ fails (.ypeek (op 2) o))) ∧
  (∀ (s : State) (gd ga : BitVec 5) (o : Outside) (y : Nat), s.ready = true → s.tagSite (s.g ga.toNat) y →
     let op := fun (sub : BitVec 2) (g : BitVec 5) => (0x31#6 ++ sub ++ 0#14 ++ g ++ ga : Insn)
     let v := s.yWord y
     (1 ≤ s.priv →
       (∃ t, exec (.yfill (op 0 0) o) s = .next t ∧ WordSet s t y v true ∧ Retired s t []) ∧
       (∃ t, exec (.yempty (op 1 0) o) s = .next t ∧ WordSet s t y v false ∧ Retired s t [])) ∧
     (s.priv = 0 →
       exec (.yfill (op 0 0) o) s = .next (s.syncFault .priv 0 s.core.pc (op 0 0)) ∧
       exec (.yempty (op 1 0) o) s = .next (s.syncFault .priv 0 s.core.pc (op 1 0))) ∧
     (∃ t, exec (.ytag (op 2 gd) o) s = .next t ∧ t.yard = { s.yard with served := t.yard.served } ∧
       Retired s t [(gd.toNat, if inSet y s.yard.full then 1 else 0)]))

/-- R242, R243: counters are 32 bits wide and saturate with a sticky flag; gd receives the value before; the others stay. -/
def Obligations.Counters : Prop :=
  ∀ (s : State) (k : BitVec 12) (gd gv : BitVec 5) (o : Outside), s.ready = true → s.core.sb = [] → (1 ≤ s.priv ∨ 1024 ≤ k.toNat) →
    let op := fun (sub : BitVec 2) (nw : BitVec 1) (g : BitVec 5) => (0x32#6 ++ sub ++ nw ++ 0#1 ++ k ++ gd ++ g : Insn)
    let c := s.ctr k.toNat
    let v := (s.g gv.toNat).toNat % 2 ^ 32
    let others := fun (t : State) => ∀ j, j ≠ k.toNat → t.ctr j = s.ctr j
    (∃ t, exec (.yinc (op 0 0 gv) o) s = .next t ∧ t.ctr k.toNat = min (c + v) (2 ^ 32 - 1) ∧ others t ∧
      Retired s t [(gd.toNat, BitVec.ofNat 64 c)] ∧ t.b YD_CTR_FLAGS 1 = (s.b YD_CTR_FLAGS 1 || decide (2 ^ 32 ≤ c + v)) ∧
      t.b YD_CTR_FLAGS 0 = s.b YD_CTR_FLAGS 0) ∧
    (∃ t, exec (.ydec (op 1 0 gv) o) s = .next t ∧ t.ctr k.toNat = c - v ∧ others t ∧
      Retired s t [(gd.toNat, BitVec.ofNat 64 c)] ∧ t.b YD_CTR_FLAGS 0 = (s.b YD_CTR_FLAGS 0 || decide (c < v)) ∧
      t.b YD_CTR_FLAGS 1 = s.b YD_CTR_FLAGS 1) ∧
    (∃ t, exec (.yctr (op 3 0 0) o) s = .next t ∧ t.yard = s.yard ∧ Retired s t [(gd.toNat, BitVec.ofNat 64 c)]) ∧
    (v ≤ c → ∀ nw, ∃ t, exec (.ywait (op 2 nw gv) o) s = .next t ∧ t.yard = s.yard ∧
      Retired s t [(gd.toNat, BitVec.ofNat 64 c)]) ∧
    (c < v → ∃ t, exec (.ywait (op 2 1 gv) o) s = .next t ∧ t.yard = s.yard ∧ Retired s t [(gd.toNat, 0)])

/-- R255: MBSEND to an empty mailbox of the own block fills it, MBRECV from a full one empties it into gd. -/
def Obligations.Mailboxes : Prop :=
  ∀ (s : State) (nw : Bool) (gs gd ga : BitVec 5) (o : Outside), s.ready = true → s.core.sb = [] → (nw = false → gs = 0) →
    s.feature featMailbox = true →
    (s.g ga.toNat).toNat / 2 ^ 8 % 2 ^ 4 = s.pins.blk.toNat → (s.g ga.toNat).toNat / 2 ^ 12 % 2 ^ 6 = s.pins.pkg.toNat →
    let op := fun (sub : BitVec 2) => (0x33#6 ++ sub ++ BitVec.ofBool nw ++ 0#8 ++ gs ++ gd ++ ga : Insn)
    let st := if nw then [(gs.toNat, (1 : Word))] else []
    let n := (s.g ga.toNat).toNat % 256
    let others := fun (t : State) => ∀ m, m ≠ n → t.mboxFull m = s.mboxFull m ∧ t.mboxVal m = s.mboxVal m
    (s.mboxFull n = false →
      ∃ t, exec (.mbsend (op 0) o) s = .next t ∧ t.mboxFull n = true ∧ t.mboxVal n = s.g gd.toNat ∧ others t ∧ Retired s t st) ∧
    (s.mboxFull n = true →
      ∃ t, exec (.mbrecv (op 1) o) s = .next t ∧ t.mboxFull n = false ∧ others t ∧
        Retired s t (st ++ [(gd.toNat, s.mboxVal n)]))

/-- R244, R247, R250, R241: a YTAKE without nw that finds its word empty waits with the core's id wired in the waiting room and the pc
on it. A wake makes it re-send at once in a hold and 16 ACLK later in a berth; the re-send reaches the word after its distance class
(R230, log 52), as a poll does, and once the word is full it completes the instruction. A remote operation completes at its re-send. -/
def Obligations.WaitAndResend : Prop :=
  ∀ (s : State) (b : Bool) (gd ga : BitVec 5) (o : Outside) (y : Nat), s.opening = false →
    let w : Insn := 0x30#6 ++ 1#2 ++ 0#1 ++ BitVec.ofBool b ++ 0#7 ++ 0#5 ++ gd ++ ga
    (s.ready = true → s.tagSite (s.g ga.toNat) y → inSet y s.yard.full = false → s.yard.room = [] →
      (b = true → s.feature featBerths = true ∧ 1 ≤ s.priv) →
      ∃ t, exec (.ytake w o) s = .next t ∧ t.core.run = .wait ∧ t.core.wait = some ⟨w, .local (.word y), b, false⟩ ∧
        t.yard.room.map (fun e => (e.obj, e.slots)) = [(.word y, [some (0, 0), none, none, none])] ∧ t.core.pc = s.core.pc ∧
        t.core.g = s.core.g ∧ t.yard.full = s.yard.full ∧ t.yard.mem = s.yard.mem) ∧
    (s.core.run = .wait → s.core.wait = some ⟨w, .local (.word y), b, false⟩ → inSet 0 s.yard.wakes = true →
      ∃ t, exec (.wakeArrival 0) s = .next t ∧ inSet 0 t.yard.ungating = true ∧ inSet 0 t.yard.wakes = false ∧
        (s.time.toNat + (if b then 16 else 0) + distClass 3 y, Instr.berthResend 0) ∈ t.agenda ∧ t.core = s.core) ∧
    (s.core.run = .wait → s.owner y < 4 → s.portFree (bankOf y) = true → s.yard.bad = [] → s.yard.weak = [] →
      inSet y s.yard.full = true →
      let done := fun (c : Instr) => ∃ t, exec c s = .next t ∧ WordSet s t y (s.yWord y) false ∧
        Retired s t [(gd.toNat, s.yWord y)] ∧ t.core.wait = none
      (s.core.wait = some ⟨w, .local (.word y), b, false⟩ → inSet 0 s.yard.ungating = true → done (.berthResend 0)) ∧
      (s.core.wait = some ⟨w, .local (.word y), b, true⟩ → done (.pollRetry 0)) ∧
      (∀ q : BitVec 9, s.core.wait = some ⟨w, .queued y, b, false⟩ → s.yard.tail = [(q.toNat, .core)] → done (.tailboardServe q))) ∧
    (∀ (a : Nat) (bs : List Byte), s.core.wait = some ⟨w, .remote a, b, false⟩ → o.wrErr = [] → o.get a 8 = some bs →
      ∃ t, exec (.remoteResend o) s = .next t ∧ Retired s t [(gd.toNat, BitVec.ofNat 64 (ofBytes bs))] ∧
        t.f YD_REMOTE_POLL 47 0 = min (s.f YD_REMOTE_POLL 47 0 + 1) (2 ^ 48 - 1) ∧ t.yard = s.yard)

/-- R35, R37, R298, R299: a plain fabric read or write of unscheduled groups is done and answered, of other groups answered with an
error and without effect; a request that waits in a tailboard queue is served; late responses and time-outs are counted. Rests also on log 4. -/
def Obligations.FabricRequests : Prop :=
  ∀ (s : State) (q : FabReq) (y n : Nat) (bs : List Byte), s.live = true → s.yard.bad = [] → s.yard.weak = [] → q.addr.toNat = s.yardPA y → 0 < n → n ≤ 64 →
    y + n ≤ yardBytes → y % 64 + n ≤ 64 → bs.length = n →
    (q.op = .read n → s.lineWaits q = none → s.owner y = 1 →
      exec (.fabricRequestArrival q) s = .next (s.send (.resp q (.data (s.yard.mem.read y n))))) ∧
    (q.op = .write bs false → s.lineWaits q = none → s.owner y = 1 →
      ∃ t, exec (.fabricRequestArrival q) s = .next t ∧ t.yard.mem.read y n = bs ∧
        (∀ a, a < y ∨ y + n ≤ a → t.yard.mem.read a 1 = s.yard.mem.read a 1) ∧ t.yard.full = s.yard.full ∧
        t.out = s.out ++ [.resp q .done] ∧ t.regs = s.regs) ∧
    ((q.op = .read n ∨ q.op = .write bs false) → s.lineWaits q = none → s.owner y ≠ 1 →
      exec (.fabricRequestArrival q) s = .next (s.send (.resp q .error))) ∧
    (∀ b : BitVec 9, q.op = .ypeek → y % 8 = 0 → s.owner y < 4 → s.yard.tail = [(b.toNat, .fab q)] →
      exec (.tailboardServe b) s = .next ((({ s with yard := { s.yard with tail := [] } } : State).takePort b.toNat).send
        (.resp q (.tagged (inSet y s.yard.full) (if inSet y s.yard.full then s.yWord y else 0))))) ∧
    exec .lateResponse s = .next (s.count RL_CNT_LATERSP 1) ∧
    exec (.fabricTimeout .other) s = .next (s.count RL_CNT_FABTO 1)

/-! ## The matrix array -/

/-- R110, R114, R115, R117, R125, R127, R129, R132: a TMMA, TMMV or TDRAIN of core mode that meets no fault is accepted: it reads its
operands cell cycle by cell cycle from t + 4, its beats from t + 2, or its row groups from t + 18 and writes them from t + 23; it occupies
the station for D, and a TMMA or TMMV is held to its commit cycle t + D + 17. As it is accepted it changes no accumulator, tile, flag or
word. Rests also on log 47. -/
def Obligations.MatrixAccepted : Prop :=
  ∀ (s : State) (acc tA tB : BitVec 4) (fmt : BitVec 3) (s1 s2 clear exact : BitVec 1) (nb : BitVec 2) (gb ga : BitVec 5),
    s.readyT = true → s.tmode = false →
    let now := s.time.toNat
    let W := s.tileW tA.toNat
    let begun := fun (c : Instr) (D : Nat) (parts : Nat × Micro → Prop) => ∃ t j, exec c s = .next t ∧ t.tensor.jobs = s.tensor.jobs ++ [j] ∧
      (∀ p, p ∈ j.todo ↔ parts p) ∧ j.at_ = none ∧ j.pc = s.core.pc ∧ j.t = now ∧ t.tensor.mxBusy = now + D ∧ t.core.pc = s.core.pc + 4 ∧
      t = { s with agenda := t.agenda, core := { s.core with pc := t.core.pc, passBp := s.core.passed },
                   tensor := { s.tensor with mx := t.tensor.mx, jobs := t.tensor.jobs, mxBusy := t.tensor.mxBusy } } ∧
      (c = .tdrain (0x2A#6 ++ acc ++ tA ++ fmt ++ 0#15) ∧ t.tensor.mx = s.tensor.mx ∧ t.agenda = s.agenda ∨
       ∃ op, t.tensor.mx = s.tensor.mx ++ [op] ∧ op.due = now + D + 17 ∧ op.pc = s.core.pc ∧ op.slot = none ∧
         (now + D + 17, Instr.mxCommit) ∈ t.agenda)
    (let w : Insn := 0x28#6 ++ acc ++ tA ++ tB ++ fmt ++ s1 ++ s2 ++ clear ++ exact ++ 0#7
     fmt.toNat ≤ 4 → (fmt ≠ 4 → s1 = 0 ∧ s2 = 0 ∧ exact = 0) → (exact = 1 → s1 = 1 ∧ s2 = 1 ∧ s.feature featDray = true) →
     s.tileW tB.toNat = W → s.errStore acc.toNat = false → (clear = 1 ∨ s.accConflict acc.toNat (decide (fmt = 4)) = false) →
     let passes := if s.f MX_MODE 4 3 = 0 then fmt.toNat else s.f MX_MODE 4 3
     let D := if fmt = 4 then W / 16 else if fmt = 0 then W / 32 else if passes = 3 then 3 * W / 64 else W / 32
     begun (.tmma w) D (fun p => ∃ c < D, p = (now + 4 + c, .cell c))) ∧
    (let w : Insn := 0x29#6 ++ acc ++ tA ++ nb ++ fmt ++ s1 ++ s2 ++ clear ++ gb ++ ga
     let b := nb.toNat + 1
     let f := (s.g gb.toNat).toNat % 64
     let n := (s.g gb.toNat).toNat / 256 % 64
     let L := (s.g ga.toNat).toNat
     let accs := (List.range b).map (fun v => acc.toNat + v * (if s.sumMode acc.toNat = 1 then 2 else 1))
     let r := if fmt = 4 ∧ 3 ≤ b then 2 else 1
     (fmt = 4 ∨ fmt = 0 ∧ s1 = 0 ∧ s2 = 0) → s.feature featExpress = true → 1 ≤ s.priv → L % 64 = 0 →
     (∀ g, 4 * f ≤ g → g ≤ 4 * (f + n) + 3 → g ≤ 255 → s.f (YD_OWNER g) 2 0 = 0) → b ≤ s.tileRows tA.toNat → f + n ≤ 63 →
     L + 8 * W ≤ 0xC0000 →
     (∀ a ∈ accs, a ≤ 15 ∧ s.sumMode a = s.sumMode acc.toNat ∧ s.errStore a = false ∧
       (clear = 1 ∨ s.accConflict a (decide (fmt = 4)) = false)) →
     begun (.tmmv w) (r * (W / 8)) (fun p =>
       (∃ k < W / 8, p = (now + 2 + r * k, .beat k)) ∨ ∃ c < r * (W / 8), p = (now + 4 + c, .cell c))) ∧
    (let w : Insn := 0x2A#6 ++ acc ++ tA ++ fmt ++ 0#15
     let a := acc.toNat
     let D := (s.tileRows tA.toNat + 15) / 16
     fmt.toNat ≤ 4 → s.errStore a = false → s.b TF_START 63 = false →
     W = (match fmt.toNat with | 1 => 128 | 2 => 64 | 4 => 512 | _ => 256) →
     (fmt = 3 → s.accUsed a = true → s.accInt a = true) →
     (fmt = 4 → s.sumMode a = 1 ∧ (s.accUsed a = true → s.accInt a = false)) →
     begun (.tdrain w) D (fun p => ∃ g < D, p = (now + 18 + g, .groupRead g) ∨ p = (now + 23 + g, .groupWrite g)))

/-- R104, R109, R111: the commit of an INT8 instruction adds its exact sum to each cell, or replaces the cell with the clear bit,
saturating at the INT32 limits, with SAT set where a cell left them; it sets the in-use and type bits, and every other accumulator
stays. -/
def Obligations.IntegerCommit : Prop :=
  ∀ (s : State) (op : MxOp) (a : Nat) (cells : List (Nat × PVal)) (z : Nat → Int), s.opening = false →
    let claimed := s.claim .mxCommit
    let u := if op.due ≤ s.time.toNat then claimed else claimed.advanceTo (claimed.cycOf op.due)
    s.tensor.mx = [op] → u.tensor.mx = [op] → op.slot = none →
    op.int = true → op.slice = false → op.flushed = false → op.sums = [(a, cells)] → a < 16 → u.sumMode a = 0 →
    u.errStore a = false → u.canonical = true → (∀ k v, (k, v) ∈ cells → k < 4096 ∧ v = .fin (z k) 0) →
    (∀ k, k ∉ cells.map (·.1) → z k = 0) →
    let old := fun (k : Nat) => if op.clear = true ∨ u.accUsed a = false then 0 else (BitVec.ofNat 32 (u.accCell a k)).toInt
    let sum := fun (k : Nat) => old k + z k
    ∃ t, exec .mxCommit s = .next t ∧ t.tensor.mx = [] ∧
      (∀ k, k < 4096 → (BitVec.ofNat 32 (t.accCell a k)).toInt = max (-2 ^ 31) (min (2 ^ 31 - 1) (sum k))) ∧
      (∀ b k, b ≠ a → k < 4096 → t.accCell b k = u.accCell b k) ∧
      t.b MX_ACCINUSE a = true ∧ t.b MX_ACCTYPE a = true ∧ t.f MX_CNT_DONE 47 0 = min (u.f MX_CNT_DONE 47 0 + 1) (2 ^ 48 - 1) ∧
      (t.b MX_SATFLAGS a = true ↔ u.b MX_SATFLAGS a = true ∨ ∃ k < 4096, sum k < -2 ^ 31 ∨ 2 ^ 31 - 1 < sum k) ∧
      t.tensor.tiles = u.tensor.tiles ∧ t.core.g = u.core.g ∧ t.yard = u.yard

/-- R104, R114, R128 to R132: in INT32 format a row group of a TDRAIN copies row r of the accumulator as it stands at the group's read,
zero where the accumulator is not in use, into row r of the tile at the group's write, whatever has happened between; the first write of a
tile not in use leaves zero in its other rows. No accumulator and no other tile changes, and the last group's write completes the
instruction. -/
def Obligations.DrainInt32 : Prop :=
  ∀ (s u : State) (j : Job) (acc tD : BitVec 4) (g : Nat),
    j.w = 0x2A#6 ++ acc ++ tD ++ 3#3 ++ 0#15 → j.rows = [] → j.h ≤ 64 →
    let a := acc.toNat
    let T := tD.toNat
    let lo := j.row + 16 * g
    let mine := fun (r : Nat) => lo ≤ r ∧ r < lo + 16 ∧ r < j.h
    ∃ j1 j2 t, s.micro j (.groupRead g) = (some j1, s) ∧ u.micro j1 (.groupWrite g) = (some j2, t) ∧ j2.todo = j.todo ∧ j2.rows = [] ∧
      (lo < j.h → t.tileUsed T = true) ∧ t.tensor.accs = u.tensor.accs ∧
      (∀ r k, mine r → k < 64 →
        t.tensor.tiles.num (T * 65536 + r * 1024 + 4 * k) 4 = if s.accUsed a then s.accCell a (64 * r + k) else 0) ∧
      (∀ r x, r < 64 → ¬ mine r → lo < j.h → x < 1024 → t.tensor.tiles.read (T * 65536 + r * 1024 + x) 1 =
        if u.tileUsed T then u.tensor.tiles.read (T * 65536 + r * 1024 + x) 1 else [0]) ∧
      (∀ x, x < T * 65536 ∨ (T + 1) * 65536 ≤ x → t.tensor.tiles.read x 1 = u.tensor.tiles.read x 1) ∧
      t.core = u.core ∧ t.yard = u.yard ∧
      t.f MX_CNT_DONE 47 0 = (if j.writesMore then u.f MX_CNT_DONE 47 0
        else min (u.f MX_CNT_DONE 47 0 + 1) (2 ^ 48 - 1))

/-! ## The tile file -/

/-- R171, R192 to R195: TSHAPE, TZERO, TRELEASE and TSCALE of core mode, each with what it leaves; in timetable mode they raise
TILE_BOUND. -/
def Obligations.TileManagement : Prop :=
  ∀ (s : State) (tile acc : BitVec 4) (rows : BitVec 6) (width : BitVec 4) (A : BitVec 1) (mask : BitVec 16) (gs : BitVec 5),
    s.ready = true →
    let T := tile.toNat
    let shape : Insn := 0x2C#6 ++ 0#4 ++ tile ++ rows ++ width ++ 0#8
    let zero : Insn := 0x2C#6 ++ 1#4 ++ tile ++ 0#18
    let release : Insn := 0x2C#6 ++ 2#4 ++ A ++ 0#5 ++ mask
    let scale : Insn := 0x2C#6 ++ 5#4 ++ acc ++ 0#13 ++ gs
    let keeps := fun (t : State) => t.core.pc = s.core.pc + 4 ∧ t.core.g = s.core.g ∧ t.yard = s.yard ∧ t.tensor.accs = s.tensor.accs ∧
      t.tensor.vregs = s.tensor.vregs ∧ (∀ x, x < T * 65536 ∨ (T + 1) * 65536 ≤ x → t.tensor.tiles.read x 1 = s.tensor.tiles.read x 1)
    let zeroed := fun (t : State) => ∀ x, T * 65536 ≤ x → x < (T + 1) * 65536 → t.tensor.tiles.read x 1 = [0]
    (s.readyT = true → s.tmode = false →
      (∃ t, exec (.tshape shape) s = .next t ∧ t.tileRows T = rows.toNat + 1 ∧ t.tileW T = (width.toNat + 1) * 64 ∧
        t.tileUsed T = false ∧ zeroed t ∧ t.b TF_START 63 = false ∧ keeps t ∧ (∀ u, u ≠ T → t.tileUsed u = s.tileUsed u) ∧
        (∀ o, o ≠ TF_SHAPE T → o ≠ TF_INUSE → o ≠ TF_START → t.rd o = s.rd o)) ∧
      (∃ t, exec (.tzero zero) s = .next t ∧ t.tileUsed T = true ∧ (∀ r < s.tileRows T, ∀ x < s.tileW T, t.tileBytes T r x 1 = [0]) ∧
        (∀ r x, r < 64 → x < 1024 → s.tileRows T ≤ r → t.tensor.tiles.read (T * 65536 + r * 1024 + x) 1 =
          s.tensor.tiles.read (T * 65536 + r * 1024 + x) 1) ∧ keeps t ∧ (∀ u, u ≠ T → t.tileUsed u = s.tileUsed u) ∧
        (∀ o, o ≠ TF_INUSE → t.rd o = s.rd o)) ∧
      (∃ t, exec (.trelease release) s = .next t ∧ keeps t ∧ t.tensor.tiles = s.tensor.tiles ∧
        (A = 0 → (∀ u < 16, t.tileUsed u = (s.tileUsed u && !mask.getLsbD u)) ∧ (∀ o, o ≠ TF_INUSE → t.rd o = s.rd o)) ∧
        (A = 1 → (∀ a < 16, t.b MX_ACCINUSE a = (s.b MX_ACCINUSE a && !mask.getLsbD (if s.errStore a then a - 1 else a))) ∧
          (∀ o, o ≠ MX_ACCINUSE → t.rd o = s.rd o))) ∧
      (∃ t, exec (.tscale scale) s = .next t ∧ keeps t ∧ t.f (MX_ACCSCALE acc.toNat) 31 0 = (s.g gs.toNat).toNat % 2 ^ 32 ∧
        t.tensor = s.tensor ∧ (∀ o, o ≠ MX_ACCSCALE acc.toNat → t.rd o = s.rd o))) ∧
    (s.tmode = true →
      exec (.tshape shape) s = .next (s.syncFault .tileBound 0 s.core.pc shape) ∧
      exec (.tzero zero) s = .next (s.syncFault .tileBound 0 s.core.pc zero) ∧
      exec (.trelease release) s = .next (s.syncFault .tileBound 0 s.core.pc release) ∧
      exec (.tscale scale) s = .next (s.syncFault .tileBound 0 s.core.pc scale))

/-- R171, R176, R181, R182: with a RAW pair, TLD copies row r of a tile from base + r · stride, and TST copies it there, in
core-owned groups of the Yard; where rows of a TST overlap the higher row remains. Nothing else of the tiles, of the Yard or of its
tags changes. R184, R188: in core mode a base that is not a multiple of 8 raises ALIGN, and so does a stride that is not, with nothing moved and
TF_START at the row it began with. The address reported is that of the base where it is misaligned, else the stride (log 49). -/
def Obligations.TileMoves : Prop :=
  (∀ (s : State) (tile : BitVec 4) (p : BitVec 3) (gs ga : BitVec 5) (o : Outside) (y : Nat → Nat), s.readyT = true → s.tmode = false →
     s.b SP_CTRL 0 = false → s.core.sb = [] → s.yard.bad = [] → s.yard.weak = [] → s.b TF_START 63 = false →
     (s.g ga.toNat).toNat % 8 = 0 → (s.g gs.toNat).toNat % 8 = 0 →
     s.f (TF_CONV p.toNat) 7 4 = 0 → s.f (TF_CONV p.toNat) 11 8 = 0 →
     let T := tile.toNat
     let W := s.tileW T
     let h := s.tileRows T
     let word := fun (st : BitVec 1) => (0x2B#6 ++ st ++ tile ++ p ++ 0#8 ++ gs ++ ga : Insn)
     (∀ r < h, (s.g ga.toNat + BitVec.ofNat 64 r * s.g gs.toNat).toNat = s.yardPA (y r) ∧ y r + W ≤ yardBytes ∧
       s.owned coreOnly (y r) W = true) →
     (∃ t, exec (.tld (word 0) o none) s = .next t ∧ t.tileUsed T = true ∧ t.tileRows T = h ∧ t.tileW T = W ∧
       (∀ r j, r < h → j < W → t.tensor.tiles.read (T * 65536 + r * 1024 + j) 1 = s.yard.mem.read (y r + j) 1) ∧
       (∀ x, x < T * 65536 ∨ (T + 1) * 65536 ≤ x → t.tensor.tiles.read x 1 = s.tensor.tiles.read x 1) ∧ t.yard = s.yard ∧
       t.f TF_CNT_ROWS 47 0 = min (s.f TF_CNT_ROWS 47 0 + h) (2 ^ 48 - 1) ∧ t.core.pc = s.core.pc + 4 ∧ t.core.g = s.core.g ∧
       t.tensor.accs = s.tensor.accs ∧ t.tensor.vregs = s.tensor.vregs) ∧
     (∃ t, exec (.tst (word 1) o none) s = .next t ∧ t.tensor = s.tensor ∧
       (∀ r j, r < h → j < W → (∀ q, r < q → q < h → y r + j < y q ∨ y q + W ≤ y r + j) →
         t.yard.mem.read (y r + j) 1 = s.tileBytes T r j 1) ∧
       (∀ a, (∀ r < h, a < y r ∨ y r + W ≤ a) → t.yard.mem.read a 1 = s.yard.mem.read a 1) ∧ t.yard.full = s.yard.full ∧
       t.f TF_CNT_ROWS 47 0 = min (s.f TF_CNT_ROWS 47 0 + h) (2 ^ 48 - 1) ∧ t.core.pc = s.core.pc + 4 ∧ t.core.g = s.core.g)) ∧
  (∀ (s : State) (tile : BitVec 4) (p : BitVec 3) (gs ga : BitVec 5) (o : Outside) (cut : Option (BitVec 7)), s.readyT = true →
     s.tmode = false →
     let base := s.g ga.toNat
     let stride := s.g gs.toNat
     let word := fun (st : BitVec 1) => (0x2B#6 ++ st ++ tile ++ p ++ 0#8 ++ gs ++ ga : Insn)
     let fa := if base.toNat % 8 ≠ 0 then base else stride
     let started := fun (kind : Nat) =>
       let row := if s.b TF_START 63 ∧ s.f TF_START 35 32 = kind ∧ s.f TF_START 3 0 = tile.toNat then s.f TF_START 21 16 else 0
       s.wr TF_START (BitVec.ofNat 64 (2 ^ 63 + kind * 2 ^ 32 + row * 2 ^ 16 + tile.toNat))
     base.toNat % 8 ≠ 0 ∨ stride.toNat % 8 ≠ 0 →
     exec (.tld (word 0) o cut) s = .next ((started 1).syncFault .align fa s.core.pc (word 0)) ∧
     exec (.tst (word 1) o cut) s = .next ((started 2).syncFault .align fa s.core.pc (word 1)))

/-- R176, R177: the pair of INT4 and INT8 gives back, through TST, the row that it widened through TLD, and neither clamps. -/
def Obligations.NarrowUndoesWiden : Prop :=
  ∀ (sgn ftz : Bool) (sc : Nat) (bs : List Byte),
    let c : Conv := ⟨4, 3, sgn, sc⟩
    let wide := convRow c false ftz bs
    wide.1.length = 2 * bs.length ∧ wide.2.1 = false ∧ convRow c true ftz wide.1 = (bs, false, false, false)

/-- R198: TSAVE writes the area: its header, and after it the rows of the first tile in use; it changes nothing else. -/
def Obligations.SaveWritesArea : Prop :=
  ∀ (s : State) (ga : BitVec 5) (o : Outside) (y : Nat), s.readyT = true → s.tmode = false → s.b SP_CTRL 0 = false → s.core.sb = [] →
    let n := 256 + ((List.range 16).map (fun T => if s.tileUsed T then s.tileRows T * s.tileW T else 0)).sum +
      16384 * ((List.range 16).filter s.accUsed).length
    (s.g ga.toNat).toNat = s.yardPA y → y % 64 = 0 → y + n ≤ yardBytes → s.owned coreOnly y n = true →
    ∃ t, exec (.tsave (0x2C#6 ++ 3#4 ++ 0#17 ++ ga) o) s = .next t ∧
      (let m := t.yard.mem
       m.num y 2 = 1 ∧ m.num (y + 4) 2 = s.f TF_INUSE 15 0 ∧ m.num (y + 12) 4 * 64 = n ∧
       (∀ a < 16, (m.num (y + 6) 2).testBit a = s.accUsed a ∧ (m.num (y + 8) 2).testBit a = s.accInt a ∧
         m.num (y + 0x30 + 4 * a) 4 = s.f (MX_ACCSCALE a) 31 0) ∧
       (∀ T < 16, m.num (y + 0x10 + 2 * T) 2 % 64 + 1 = s.tileRows T ∧ (m.num (y + 0x10 + 2 * T) 2 / 256 + 1) * 64 = s.tileW T) ∧
       (∀ T < 16, s.tileUsed T = true → (∀ u < T, s.tileUsed u = false) → ∀ r < s.tileRows T,
         m.read (y + 256 + r * s.tileW T) (s.tileW T) = s.tileRow T r (s.tileW T)) ∧
       (∀ a, a < y ∨ y + n ≤ a → m.read a 1 = s.yard.mem.read a 1)) ∧
      t.yard.full = s.yard.full ∧ t.tensor = s.tensor ∧ t.regs = s.regs ∧ t.core.pc = s.core.pc + 4 ∧ t.core.g = s.core.g

/-- R198, R199: TRESTORE of an area that TSAVE wrote gives back every tile and every accumulator that was in use, and leaves the
others; an FP32 value comes back as R144 has it, with no −0 and every NaN the canonical one (log 49). -/
def Obligations.RestoreUndoesSave : Prop :=
  ∀ (saved s : State) (ga : BitVec 5) (o : Outside) (y : Nat), s.readyT = true → s.tmode = false → s.b SP_CTRL 0 = false →
    s.core.sb = [] → s.yard.bad = [] → s.yard.weak = [] → s.canonical = true →
    let area := saved.saveArea
    let fp := fun (a v : Nat) => if saved.accInt a ∧ s.errStore a = false then v
      else if v = 2 ^ 31 then 0 else if (f32.dec v).isNan then 0x7FC00000 else v
    (s.g ga.toNat).toNat = s.yardPA y → y % 64 = 0 → y + area.length ≤ yardBytes → s.owned coreOnly y area.length = true →
    s.yard.mem.read y area.length = area →
    ∃ t, exec (.trestore (0x2C#6 ++ 4#4 ++ 0#17 ++ ga) o) s = .next t ∧
      (∀ T < 16, saved.tileUsed T = true → t.tileUsed T = true ∧ t.tileRows T = saved.tileRows T ∧ t.tileW T = saved.tileW T ∧
        ∀ r < saved.tileRows T, t.tileRow T r (saved.tileW T) = saved.tileRow T r (saved.tileW T)) ∧
      (∀ a < 16, saved.accUsed a = true → t.b MX_ACCINUSE a = true ∧ t.b MX_ACCTYPE a = saved.accInt a ∧
        t.f (MX_ACCSCALE a) 31 0 = saved.f (MX_ACCSCALE a) 31 0 ∧ ∀ k < 4096, t.accCell a k = fp a (saved.accCell a k)) ∧
      (∀ T < 16, saved.tileUsed T = false → t.tileUsed T = s.tileUsed T ∧ t.rd (TF_SHAPE T) = s.rd (TF_SHAPE T) ∧
        ∀ x < 65536, t.tensor.tiles.read (T * 65536 + x) 1 = s.tensor.tiles.read (T * 65536 + x) 1) ∧
      (∀ a < 16, saved.accUsed a = false → t.b MX_ACCINUSE a = s.b MX_ACCINUSE a ∧ ∀ k < 4096, t.accCell a k = s.accCell a k) ∧
      t.b TF_START 63 = false ∧ t.yard = s.yard ∧ t.core.pc = s.core.pc + 4 ∧ t.core.g = s.core.g

/-! ## The vector engine -/

/-- R205, R208, R212: the INT32 operations on the active elements, wrapping, without flags; D = C and L = 4. -/
def Obligations.VectorInteger : Prop :=
  ∀ (s : State) (d a b : BitVec 5) (m : BitVec 3), s.readyT = true → s.tmode = false →
    let n := min s.vl 512
    let D := if n ≤ 256 then 1 else 2
    let elem := fun (v : BitVec 5) (e : Nat) => BitVec.ofNat 32 (s.vElem v.toNat 4 e)
    let word := fun (op : BitVec 6) (b : BitVec 5) (func : BitVec 6) => (op ++ d ++ a ++ b ++ m ++ 3#2 ++ func : Insn)
    let gives := fun (c : Instr) (f : BitVec 32 → BitVec 32 → BitVec 32) => ∃ t op, exec c s = .next t ∧ VxAccepted s t op D 4 ∧
      op.flags = 0 ∧ op.mask = none ∧
      op.writes d.toNat 4 (fun e => if s.active m.toNat n e then some (f (elem a e) (elem b e)).toNat else none)
    (∀ p ∈ ([(.vadd, 0x00, fun x y => x + y), (.vsub, 0x01, fun x y => x - y), (.vmul, 0x02, fun x y => x * y),
        (.vmin, 0x04, fun x y => if x.toInt ≤ y.toInt then x else y), (.vmax, 0x05, fun x y => if x.toInt ≤ y.toInt then y else x),
        (.vand, 0x10, fun x y => x &&& y), (.vor, 0x11, fun x y => x ||| y), (.vxor, 0x12, fun x y => x ^^^ y),
        (.vshl, 0x13, fun x y => x <<< (y.toNat % 32)), (.vshra, 0x14, fun x y => x.sshiftRight (y.toNat % 32)),
        (.vshrl, 0x15, fun x y => x >>> (y.toNat % 32))] :
        List ((Insn → Instr) × BitVec 6 × (BitVec 32 → BitVec 32 → BitVec 32))),
      gives (p.1 (word 0x20 b p.2.1)) p.2.2) ∧
    (∀ p ∈ ([(.vmov, 0, fun x _ => x), (.vneg, 1, fun x _ => -x), (.vabs, 2, fun x _ => if x.toInt < 0 then -x else x)] :
        List ((Insn → Instr) × BitVec 6 × (BitVec 32 → BitVec 32 → BitVec 32))),
      gives (p.1 (word 0x21 0 p.2.1)) p.2.2)

/-- R205, R208, R210 to R212: the floating-point operations and VCVT on the active elements, each with the flags of its elements;
D = C and L = 4, and for VDIV and VSQRT D = 8C and L = 12. -/
def Obligations.VectorFloat : Prop :=
  ∀ (s : State) (d a b : BitVec 5) (m : BitVec 3) (wc src : BitVec 2), s.readyT = true → s.tmode = false →
    let f := vFmt wc.toNat
    let k := vSize wc.toNat
    let n := min s.vl (vCap wc.toNat)
    let C := fun (n k : Nat) => max 1 ((n * k + 1023) / 1024)
    let word := fun (op : BitVec 6) (b : BitVec 5) (func : BitVec 6) => (op ++ d ++ a ++ b ++ m ++ wc ++ func : Insn)
    let gives := fun (c : Instr) (n D L : Nat) (r : Nat → Nat × FFlags) => ∃ t op, exec c s = .next t ∧
      VxAccepted s t op (if n = 0 then 1 else D) L ∧ op.mask = none ∧
      op.writes d.toNat k (fun e => if s.active m.toNat n e then some (r e).1 else none) ∧
      (∀ i, op.flags.getLsbD i = (List.range n).any (fun e => s.active m.toNat n e && (r e).2.getLsbD i))
    let x := s.vElem a.toNat k
    let y := s.vElem b.toNat k
    let z := s.vElem d.toNat k
    (wc ≠ 3 →
      gives (.vadd (word 0x20 b 0)) n (C n k) 4 (fun e => f.fadd (x e) (y e)) ∧
      gives (.vsub (word 0x20 b 1)) n (C n k) 4 (fun e => f.fsub (x e) (y e)) ∧
      gives (.vmul (word 0x20 b 2)) n (C n k) 4 (fun e => f.fmul (x e) (y e)) ∧
      gives (.vdiv (word 0x20 b 3)) n (8 * C n k) 12 (fun e => f.fdiv (x e) (y e)) ∧
      gives (.vmin (word 0x20 b 4)) n (C n k) 4 (fun e => f.fmin (x e) (y e)) ∧
      gives (.vmax (word 0x20 b 5)) n (C n k) 4 (fun e => f.fmax (x e) (y e)) ∧
      gives (.vfma (word 0x20 b 6)) n (C n k) 4 (fun e => f.ffma false (z e) (x e) (y e)) ∧
      gives (.vfnma (word 0x20 b 7)) n (C n k) 4 (fun e => f.ffma true (z e) (x e) (y e)) ∧
      gives (.vscalb (word 0x20 b 8)) n (C n k) 4 (fun e => f.fscalb (x e) (y e)) ∧
      gives (.vneg (word 0x21 0 1)) n (C n k) 4 (fun e => ((x e) ^^^ 2 ^ (8 * k - 1), 0)) ∧
      gives (.vabs (word 0x21 0 2)) n (C n k) 4 (fun e => (x e % 2 ^ (8 * k - 1), 0)) ∧
      gives (.vsqrt (word 0x21 0 3)) n (8 * C n k) 12 (fun e => f.fsqrt (x e)) ∧
      gives (.vrndi (word 0x21 0 4)) n (C n k) 4 (fun e => f.frndi (x e)) ∧
      gives (.vlogb (word 0x21 0 5)) n (C n k) 4 (fun e => f.flogb (x e))) ∧
    gives (.vmov (word 0x21 0 0)) n (C n k) 4 (fun e => (x e, 0)) ∧
    (src ≠ wc →
      let j := vSize src.toNat
      let nc := min s.vl (min (vCap src.toNat) (vCap wc.toNat))
      gives (.vcvt (word 0x21 (0#3 ++ src) 6)) nc (C nc (max j k)) 4 (fun e => vConvert src.toNat wc.toNat (s.vElem a.toNat j e)))

/-- R210: a rounded result is as near to the exact value as any encoding of its format, and of two equally near it is the even one,
unless it overflows; and an encoding that is no NaN rounds to itself without a flag. R211: a NaN among the operands gives the canonical quiet NaN, and a signalling one signals invalid. -/
def Obligations.VectorRounding : Prop :=
  (∀ f ∈ [f16, f32, f64],
     (∀ (neg : Bool) (m : Nat) (e : Int), 0 < m →
       let x := (f.round neg m e).1
       let q := f.emin - f.fb
       let far := fun (u : Nat) => (((u * 2 ^ (q - min q e).toNat : Nat) : Int) - (m * 2 ^ (e - min q e).toNat : Nat)).natAbs
       (f.round neg m e).2.getLsbD 2 = false →
         f.sign x = neg ∧
         ∀ y, f.expo y < 2 ^ f.eb - 1 → far (f.units x) ≤ far (f.units y) ∧
           (far (f.units x) = far (f.units y) → f.units x ≠ f.units y → f.frac x % 2 = 0)) ∧
     (∀ x, x < 2 ^ (8 * f.size) → (f.dec x).isNan = false → f.ofFV (f.dec x) = (x, 0))) ∧
  (∀ f ∈ [f16, f32, f64], ∀ x y : Nat,
     let r := fun (p : Nat × FFlags) => p.1 = f.qnan ∧ ((f.dec x).isSig = true ∨ (f.dec y).isSig = true → p.2.getLsbD 0 = true)
     ((f.dec x).isNan = true ∨ (f.dec y).isNan = true →
       r (f.fadd x y) ∧ r (f.fsub x y) ∧ r (f.fmul x y) ∧ r (f.fdiv x y) ∧ r (f.fmin x y) ∧ r (f.fmax x y) ∧ r (f.fscalb x y)) ∧
     ((f.dec x).isNan = true →
       let r := fun (p : Nat × FFlags) => p.1 = f.qnan ∧ ((f.dec x).isSig = true → p.2.getLsbD 0 = true)
       (∀ a b neg, r (f.ffma neg x a b) ∧ r (f.ffma neg a x b) ∧ r (f.ffma neg a b x)) ∧
       r (f.fsqrt x) ∧ r (f.frndi x) ∧ r (f.flogb x)))

/-- R223, R224: VRSUM of INT32 elements wraps, VRMAX and VRMIN give the greatest and least active element or write nothing, each into
element 0; VSUMP of INT32 partials gives their exact sums as binary64. Rests also on log 8. -/
def Obligations.VectorReductions : Prop :=
  ∀ (s : State) (d a : BitVec 5) (m : BitVec 3), s.readyT = true → s.tmode = false →
    let n := min s.vl 512
    let D := if n ≤ 256 then 1 else 2
    let word := fun (b : BitVec 5) (func : BitVec 6) => (0x22#6 ++ d ++ a ++ b ++ m ++ 3#2 ++ func : Insn)
    let elem := fun (v e : Nat) => (BitVec.ofNat 32 (s.vElem v 4 e)).toInt
    let act := (List.range n).filter (s.active m.toNat n)
    let one := fun (c : Instr) (r : Option (BitVec 32)) => ∃ t op, exec c s = .next t ∧ VxAccepted s t op D 17 ∧ op.flags = 0 ∧
      op.writes d.toNat 4 (fun e => if e = 0 then r.map BitVec.toNat else none)
    one (.vrsum (word 0 0)) (if n = 0 then none else some (BitVec.ofInt 32 (act.map (elem a.toNat)).sum)) ∧
    (act = [] → one (.vrmax (word 0 1)) none ∧ one (.vrmin (word 0 2)) none) ∧
    (∀ e ∈ act,
      ((∀ e' ∈ act, elem a.toNat e' ≤ elem a.toNat e) → one (.vrmax (word 0 1)) (some (BitVec.ofInt 32 (elem a.toNat e)))) ∧
      ((∀ e' ∈ act, elem a.toNat e ≤ elem a.toNat e') → one (.vrmin (word 0 2)) (some (BitVec.ofInt 32 (elem a.toNat e))))) ∧
    (∀ b : BitVec 5, a.toNat + b.toNat ≤ 31 → d.toNat % 2 = 0 →
      let sum := fun (e : Nat) => ((List.range (b.toNat + 1)).map (fun i => elem (a.toNat + i) e)).sum
      ∃ t op, exec (.vsump (word b 8)) s = .next t ∧
        VxAccepted s t op (if n = 0 then 1 else (b.toNat + 1) * max 1 ((8 * n + 1023) / 1024)) 4 ∧ op.flags = 0 ∧
        ∀ e i, e < 512 → i < 8 → op.byteAt (d.toNat * 2048 + 8 * e + i) =
          if s.active m.toNat n e then some (BitVec.ofNat 8 ((f64.ofInt (sum e)).1 / 256 ^ i)) else none)

/-- R204, R205, R208, R209, R213: VSETVL sets VL at once; VBCAST, compares and mask logic commit their elements and their bits. -/
def Obligations.VectorControl : Prop :=
  ∀ (s : State) (d a b : BitVec 5) (m md ma mb : BitVec 3) (wc : BitVec 2), s.readyT = true → s.tmode = false → md ≠ 0 →
    let k := vSize wc.toNat
    let n := min s.vl (vCap wc.toNat)
    let D := max 1 ((n * k + 1023) / 1024)
    let word := fun (d a b : BitVec 5) (m : BitVec 3) (wc : BitVec 2) (func : BitVec 6) =>
      (0x25#6 ++ d ++ a ++ b ++ m ++ wc ++ func : Insn)
    let bits := fun (c : Instr) (D L : Nat) (wr : Nat → Bool) (val : Nat → Bool) => ∃ t op which v, exec c s = .next t ∧
      VxAccepted s t op D L ∧ op.mask = some (md.toNat, which, v) ∧ op.wr = [] ∧
      ∀ e < 1024, which.getLsbD e = wr e ∧ (wr e = true → v.getLsbD e = val e)
    let int := fun (v : BitVec 5) (e : Nat) => (BitVec.ofNat 32 (s.vElem v.toNat 4 e)).toInt
    let f := vFmt wc.toNat
    let x := fun (e : Nat) => f.dec (s.vElem a.toNat k e)
    let y := fun (e : Nat) => f.dec (s.vElem b.toNat k e)
    (∃ t, exec (.vsetvl (word 0 0 b 0 0 0)) s = .next t ∧ t.vl = min (s.g b.toNat).toNat 1024 ∧ t.core.pc = s.core.pc + 4 ∧
      t.core.g = s.core.g ∧ t.yard = s.yard ∧ t.tensor.vregs = s.tensor.vregs ∧ t.tensor.masks = s.tensor.masks ∧
      (∀ o, o ≠ VX_VL → o ≠ VX_CNT_DONE → o ≠ VX_FLAGS → t.rd o = s.rd o)) ∧
    (∃ t op, exec (.vbcast (word d 0 b m wc 1)) s = .next t ∧ VxAccepted s t op D 4 ∧ op.flags = 0 ∧ op.mask = none ∧
      op.writes d.toNat k (fun e => if s.active m.toNat n e then some ((s.g b.toNat).toNat % 2 ^ (8 * k)) else none)) ∧
    (wc = 3 →
      bits (.vcmpeq (word (0#2 ++ md) a b m wc 8)) D 4 (s.active m.toNat n) (fun e => decide (int a e = int b e)) ∧
      bits (.vcmplt (word (0#2 ++ md) a b m wc 9)) D 4 (s.active m.toNat n) (fun e => decide (int a e < int b e)) ∧
      bits (.vcmple (word (0#2 ++ md) a b m wc 10)) D 4 (s.active m.toNat n) (fun e => decide (int a e ≤ int b e))) ∧
    (wc ≠ 3 →
      bits (.vcmpeq (word (0#2 ++ md) a b m wc 8)) D 4 (s.active m.toNat n) (fun e => (x e).eqv (y e)) ∧
      bits (.vcmplt (word (0#2 ++ md) a b m wc 9)) D 4 (s.active m.toNat n)
        (fun e => !(x e).isNan && !(y e).isNan && (x e).lt (y e)) ∧
      bits (.vcmple (word (0#2 ++ md) a b m wc 10)) D 4 (s.active m.toNat n)
        (fun e => !(x e).isNan && !(y e).isNan && ((x e).lt (y e) || (x e).eqv (y e)))) ∧
    bits (.vmand (word (0#2 ++ md) (0#2 ++ ma) (0#2 ++ mb) 0 0 16)) 1 2 (fun _ => true)
      (fun e => (s.mask ma.toNat).getLsbD e && (s.mask mb.toNat).getLsbD e) ∧
    bits (.vmor (word (0#2 ++ md) (0#2 ++ ma) (0#2 ++ mb) 0 0 17)) 1 2 (fun _ => true)
      (fun e => (s.mask ma.toNat).getLsbD e || (s.mask mb.toNat).getLsbD e) ∧
    bits (.vmnot (word (0#2 ++ md) (0#2 ++ ma) 0 0 0 18)) 1 2 (fun _ => true) (fun e => !(s.mask ma.toNat).getLsbD e) ∧
    (∀ e < 1024, (s.mask 0).getLsbD e = true)

/-- R225, R226: VSPLIT writes slice s of each active element as a byte of block q; where σ is no integral finite value, the element is
not finite, or its magnitude is 2^σ or more, the byte is 0x7F, and INVALID is set where, and only where, that happens. VJOINS and VJOIN
scale INT32 sums by 2^(−6M) and add them. -/
def Obligations.VectorDray : Prop :=
  ∀ (s : State) (d a b : BitVec 5) (m sl q : BitVec 3) (M : BitVec 4), s.readyT = true → s.tmode = false →
    let n := min s.vl 256
    let D := max 1 ((8 * n + 1023) / 1024)
    let on := s.active m.toNat n
    -- σ as the value of element 0 of vb, and x as that of element e of va: a sign, a magnitude and the exponent of its lowest bit
    let isσ := fun (σ : Int) => match f64.dec (s.vElem b.toNat 8 0) with
      | .fin ns ms es => signed ns ms * 2 ^ es.toNat = σ * 2 ^ (-es).toNat
      | _ => False
    let slice := fun (e : Nat) (σ : Int) => match f64.dec (s.vElem a.toNat 8 e) with
      | .fin nx mx ex =>
        let tr := fun (k : Int) => (if 0 ≤ ex - σ + k then mx * 2 ^ (ex - σ + k).toNat else mx / 2 ^ (-(ex - σ + k)).toNat : Nat)
        let i : Int := 6 * (sl.toNat + 1)
        if mx ≠ 0 ∧ σ ≤ topExp mx ex then none else some (BitVec.ofInt 8 (signed nx (tr i - 64 * tr (i - 6))))
      | _ => none
    let bad := fun (e : Nat) => ∀ σ, isσ σ → slice e σ = none
    (∃ t op, exec (.vsplit (0x24#6 ++ d ++ a ++ b ++ m ++ sl ++ q ++ 0#2)) s = .next t ∧ VxAccepted s t op D 4 ∧ op.mask = none ∧
      (∀ z, (256 * q.toNat ≤ z ∧ z < 256 * q.toNat + 256 ∧ on (z - 256 * q.toNat) = true) ∨ op.byteAt (d.toNat * 2048 + z) = none) ∧
      (∀ e, on e = true →
        (∀ σ v, isσ σ → slice e σ = some v → op.byteAt (d.toNat * 2048 + 256 * q.toNat + e) = some v) ∧
        (bad e → op.byteAt (d.toNat * 2048 + 256 * q.toNat + e) = some 0x7F)) ∧
      (op.flags.getLsbD 0 = true ↔ ∃ e, on e = true ∧ bad e) ∧ (∀ i, 0 < i → op.flags.getLsbD i = false)) ∧
    (M ≠ 0 →
      let S := fun (e : Nat) => (BitVec.ofNat 32 (s.vElem a.toNat 4 e)).toInt
      let term := fun (e : Nat) => FV.fin (decide (S e < 0)) (S e).natAbs (-(6 * M.toNat : Int))
      (∃ t op, exec (.vjoins (0x24#6 ++ d ++ a ++ 0#5 ++ m ++ M ++ 0#2 ++ 1#2)) s = .next t ∧ VxAccepted s t op D 4 ∧ op.flags = 0 ∧
        op.writes d.toNat 8 (fun e => if on e then some (f64.plusZero (f64.ofFV (term e)).1) else none)) ∧
      (∃ t op, exec (.vjoin (0x24#6 ++ d ++ a ++ 0#5 ++ m ++ M ++ 0#2 ++ 2#2)) s = .next t ∧ VxAccepted s t op D 4 ∧
        op.writes d.toNat 8 (fun e => if on e then some (f64.plusZero (f64.ofFV ((f64.dec (s.vElem d.toNat 8 e)).add (term e))).1)
          else none)))

/-- R218, R220, R222: VLD and VGATH of core mode take the bytes of the active elements from core-owned groups and commit later; VST
and VSCAT write those of the active elements, the higher element where two share an address, and no other byte and no tag. -/
def Obligations.VectorMemory : Prop :=
  ∀ (s : State) (v vi ga : BitVec 5) (wc : BitVec 2) (m : BitVec 3) (o : Outside) (y : Nat → Nat) (base : Nat), s.readyT = true →
    s.tmode = false → s.b SP_CTRL 0 = false → s.core.sb = [] → s.yard.bad = [] → s.yard.weak = [] →
    let k := vSize wc.toNat
    let va := s.g ga.toNat
    let word := fun (vi : BitVec 5) (sub : BitVec 2) => (0x23#6 ++ v ++ vi ++ sub ++ wc ++ m ++ 0#4 ++ ga : Insn)
    let held := fun (c : Instr) (n : Nat) (y : Nat → Nat) => ∃ t op, exec c s = .next t ∧ t.tensor.vx = s.tensor.vx ++ [op] ∧
      op.slot = none ∧ (op.due, Instr.vxCommit) ∈ t.agenda ∧ t.tensor.vregs = s.tensor.vregs ∧ t.yard = s.yard ∧
      t.core.pc = s.core.pc + 4 ∧ t.core.g = s.core.g ∧
      op.writes v.toNat k (fun e => if s.active m.toNat n e then some (s.yard.mem.num (y e) k) else none)
    let stored := fun (c : Instr) (n : Nat) (y : Nat → Nat) => ∃ t, exec c s = .next t ∧
      (∀ e, s.active m.toNat n e = true → (∀ e', e < e' → s.active m.toNat n e' = true → y e' ≠ y e) →
        t.yard.mem.read (y e) k = s.vRead v.toNat (k * e) k) ∧
      (∀ x, (∀ e, s.active m.toNat n e = true → x < y e ∨ y e + k ≤ x) → t.yard.mem.read x 1 = s.yard.mem.read x 1) ∧
      t.yard.full = s.yard.full ∧ t.tensor.vregs = s.tensor.vregs ∧ t.tensor.masks = s.tensor.masks ∧ t.core.pc = s.core.pc + 4 ∧
      t.core.g = s.core.g
    (let n := min s.vl (vCap wc.toNat)
     va.toNat = s.yardPA base → base % k = 0 → base + n * k ≤ yardBytes → s.owned coreOnly base (n * k) = true →
      held (.vld (word 0 0) o) n (fun e => base + k * e) ∧ stored (.vst (word 0 1) o none) n (fun e => base + k * e)) ∧
    (let n := min s.vl (min (vCap wc.toNat) 512)
     va.toNat % k = 0 →
      (∀ e, s.active m.toNat n e = true → y e % k = 0 ∧ y e + k ≤ yardBytes ∧ s.owned coreOnly (y e) k = true ∧
        (va + BitVec.ofInt 64 ((BitVec.ofNat 32 (s.vElem vi.toNat 4 e)).toInt * k)).toNat = s.yardPA (y e)) →
      held (.vgath (word vi 2) o) n y ∧ stored (.vscat (word vi 3) o none) n y)

/-- R214, R227: the commit of a core's vector instruction writes its bytes and its bits, adds its flags, counts it, and changes
nothing else of the registers and masks. -/
def Obligations.VectorCommit : Prop :=
  ∀ (s : State) (op : VxOp), s.opening = false →
    let claimed := s.claim .vxCommit
    let u := if op.due ≤ s.time.toNat then claimed else claimed.advanceTo (claimed.cycOf op.due)
    s.tensor.vx = [op] → u.tensor.vx = [op] → op.slot = none → (op.wr.map (·.1)).Nodup →
    (∀ p, op.mask = some p → p.1 < 8) →
    ∃ t, exec .vxCommit s = .next t ∧ t.tensor.vx = [] ∧
      (∀ a, t.tensor.vregs.read a 1 = match op.byteAt a with | some b => [b] | none => u.tensor.vregs.read a 1) ∧
      (∀ r < 8, ∀ e < 1024, (t.tensor.masks.toList.getD r 0).getLsbD e = match op.mask with
        | some (d, which, v) => if r = d ∧ which.getLsbD e = true then v.getLsbD e else (u.tensor.masks.toList.getD r 0).getLsbD e
        | none => (u.tensor.masks.toList.getD r 0).getLsbD e) ∧
      (∀ i < 5, t.b VX_FLAGS i = (u.b VX_FLAGS i || op.flags.getLsbD i)) ∧
      t.f VX_CNT_DONE 47 0 = min (u.f VX_CNT_DONE 47 0 + 1) (2 ^ 48 - 1) ∧
      (∀ o, o ≠ VX_FLAGS → o ≠ VX_CNT_DONE → t.rd o = u.rd o) ∧ t.core = u.core ∧ t.yard = u.yard ∧
      t.tensor.tiles = u.tensor.tiles ∧ t.tensor.accs = u.tensor.accs

/-! ## Slots of a timetable -/

/-- R68, R114, R115, R132: an MX slot with a TDRAIN to INT32 is accepted in its cycle and occupies the station for D; row group g is
read at t + 18 + g and written at t + 22 + g, and until then no tile changes. With the station busy the slot is discarded and
COLLISION recorded. Rests also on log 9. -/
def Obligations.MatrixSlot : Prop :=
  ∀ (s : State) (a : SlotAt) (acc tD : BitVec 4), s.slotFree a →
    let u := s.atCycle a.cycle.toNat
    let T := tD.toNat
    let w : Insn := 0x2A#6 ++ acc ++ tD ++ 3#3 ++ 0#15
    let x : Opnd := 0#64 ++ w
    let d := (u.tileRows T + 15) / 16
    u.errStore acc.toNat = false → u.tileW T = 256 → (u.accUsed acc.toNat = true → u.accInt acc.toNat = true) →
    (u.mxBusy = false →
      ∃ t j, exec (.mxIssue a x) s = .next t ∧ Issued u t a ∧ t.tensor.jobs = [j] ∧ j.at_ = a ∧ j.st = 0 ∧ j.w = w ∧
        (∀ p, p ∈ j.todo ↔ ∃ g < d, p = (u.time.toNat + 18 + g, .groupRead g) ∨ p = (u.time.toNat + 22 + g + 1, .groupWrite g)) ∧
        t.tensor.mxBusy = u.time.toNat + d ∧ t.tensor.tiles = s.tensor.tiles ∧ t.tensor.accs = s.tensor.accs ∧ t.regs = s.regs ∧
        t.yard = s.yard) ∧
    (u.mxBusy = true →
      ∃ t, exec (.mxIssue a x) s = .next t ∧ Issued u t a ∧ t = (u.issued a).collision 0 a.lane.toNat a.idx.toNat none)

/-- R23, R68, R173, R193, R196, R208, R214: a TF slot with TZERO is accepted in its cycle and occupies the station for one ACLK; at t + 1
the tile still reads as before, and from t + 2 as zero and in use. A VX slot with a VMOV is accepted in its cycle and occupies the
station for D = C; it reads its source at t + 1 and t + 2, and its commit is due at t + D + 4. Rests also on log 9. -/
def Obligations.TileAndVectorSlots : Prop :=
  (∀ (s : State) (a : SlotAt) (tile : BitVec 4), s.slotFree a →
     let u := s.atCycle a.cycle.toNat
     let T := tile.toNat
     let x : Opnd := 0#64 ++ 0x2C#6 ++ 1#4 ++ tile ++ 0#18
     u.tfBusy = false → u.time.toNat + 2 < 2 ^ 64 →
     ∃ t, exec (.tfIssue a x) s = .next t ∧ Issued u t a ∧ t.tensor.tfBusy = u.time.toNat + 1 ∧ t.regs = s.regs ∧
       (t.advanceTo (u.cycle + 1)).tensor.tiles = s.tensor.tiles ∧
       (let v := t.advanceTo (u.cycle + 2)
        v.tileUsed T = true ∧ (∀ r < s.tileRows T, ∀ x < s.tileW T, v.tileBytes T r x 1 = [0]) ∧
        (∀ y, y < T * 65536 ∨ (T + 1) * 65536 ≤ y → v.tensor.tiles.read y 1 = s.tensor.tiles.read y 1) ∧ v.yard = s.yard ∧
        v.tensor.jobs = [])) ∧
  (∀ (s : State) (a : SlotAt) (d v : BitVec 5) (m : BitVec 3), s.slotFree a →
     let u := s.atCycle a.cycle.toNat
     let w : Insn := 0x21#6 ++ d ++ v ++ 0#5 ++ m ++ 1#2 ++ 0#6
     let x : Opnd := 0#64 ++ w
     let D := if min u.vl 512 ≤ 256 then 1 else 2
     u.vxBusy = false →
     ∃ t j op, exec (.vxIssue a x) s = .next t ∧ Issued u t a ∧ t.tensor.jobs = [j] ∧
       j.todo = (List.range D).map (fun c => (u.time.toNat + 1 + c, .chunk c)) ∧ j.vl = u.vl ∧
       t.tensor.vx = s.tensor.vx ++ [op] ∧ op.slot = some a ∧ op.due = u.time.toNat + D + 4 ∧ (op.due, Instr.vxCommit) ∈ t.agenda ∧
       t.tensor.vxBusy = u.time.toNat + D ∧ t.tensor.vregs = s.tensor.vregs ∧ t.regs = s.regs ∧ t.yard = s.yard)

/-- R71, R72, R76: TAKE, PEEK and PUT reach SRC in the cycle after their issue. Where the condition holds TAKE sets SRC empty, the
other two change no tag of it, and SRC's value reaches DST, full, in the cycle of SRC's distance class; otherwise nothing changes but
HN_YS_MISS, for PUT in that cycle. Rests also on logs 9, 45. -/
def Obligations.YardWordSlots : Prop :=
  ∀ (s : State) (a : SlotAt) (src dst : BitVec 32), s.slotFree a →
    let u := s.atCycle a.cycle.toNat
    let S := src.toNat
    let T := dst.toNat
    let x : Opnd := 0#32 ++ dst ++ src
    let c := u.cycle + distClass 1 S
    S % 8 = 0 → T % 8 = 0 → S ≠ T → u.owned ttReads S 8 = true → u.owned ttWrites T 8 = true →
    s.yard.bad = [] → s.yard.weak = [] → u.time.toNat + 13 < 2 ^ 64 →
    let issues := fun (i : Instr) (next last : State → Prop) => ∃ t, exec i s = .next t ∧ Issued u t a ∧ t.yard = s.yard ∧
      next (t.advanceTo (u.cycle + 1)) ∧ last (t.advanceTo c)
    let taken := fun (b : Bool) (v : State) => v.yard.mem = s.yard.mem ∧ inSet S v.yard.full = b ∧
      ∀ y, y ≠ S → inSet y v.yard.full = inSet y s.yard.full
    let moved := fun (b : Bool) (v : State) => v.yWord T = s.yWord S ∧ inSet T v.yard.full = true ∧ inSet S v.yard.full = b ∧
      (∀ y, y < T ∨ T + 8 ≤ y → v.yard.mem.read y 1 = s.yard.mem.read y 1) ∧
      ∀ y, y ≠ S → y ≠ T → inSet y v.yard.full = inSet y s.yard.full
    let missed := fun (v : State) => v.yard = s.yard ∧ v.f HN_YS_MISS 47 0 = min (s.f HN_YS_MISS 47 0 + 1) (2 ^ 48 - 1)
    (inSet S s.yard.full = true →
      issues (.ysTake a x) (taken false) (moved false) ∧ issues (.ysPeek a x) (taken true) (moved true)) ∧
    (inSet S s.yard.full = false → issues (.ysTake a x) missed missed ∧ issues (.ysPeek a x) missed missed) ∧
    (inSet T s.yard.full = false → issues (.ysPut a x) (taken (inSet S s.yard.full)) (moved (inSet S s.yard.full))) ∧
    (inSet T s.yard.full = true → issues (.ysPut a x) (taken (inSet S s.yard.full)) missed)

/-- R71, R73, R74, R76, R89, R94, R95, R242, R243: FILL, EMPTY, PUBLISH, EXPECT, INC and DEC issue, and reach their word, tag or counter
in the next cycle: FILL and EMPTY set a word's tag; PUBLISH sets the tag word of its mail slot full and marks DOUBLE where it was, AFTER
where its deadline has passed; EXPECT leaves the tag, and records RELAY_LOSS with source EXPECT where it is empty; INC and DEC saturate.
NOP does nothing; INSPECT opens its window; END ends the lane. Rests also on logs 9, 26. -/
def Obligations.OneCycleSlots : Prop :=
  ∀ (s : State) (a : SlotAt) (word : BitVec 32) (k : BitVec 4) (ctr : BitVec 12) (value : BitVec 32) (len : BitVec 27) (units : BitVec 6),
    s.slotFree a → s.yard.bad = [] → s.yard.weak = [] →
    let u := s.atCycle a.cycle.toNat
    let W := word.toNat
    let mail := u.mailTag k.toNat
    let keeps := fun (t : State) => Issued u t a ∧ t.yard = s.yard ∧ t.regs = s.regs ∧ t.tensor = s.tensor ∧ t.core = s.core
    -- the slot issues, and from the next cycle on what it reaches is as `after` says
    let reaches := fun (i : Instr) (after : State → Prop) => ∃ t j, exec i s = .next t ∧ Issued u t a ∧ t.yard = s.yard ∧
      t.regs = s.regs ∧ t.tensor = { s.tensor with jobs := [j] } ∧ t.core = s.core ∧
      (u.time.toNat + 2 < 2 ^ 64 →
        let v := t.advanceTo (u.cycle + 1)
        after v ∧ v.yard.mem = s.yard.mem ∧ v.tensor = s.tensor ∧ v.core = s.core)
    let tagged := fun (w : Nat) (b : Bool) (v : State) =>
      inSet w v.yard.full = b ∧ ∀ y, y ≠ w → inSet y v.yard.full = inSet y s.yard.full
    let counts := fun (n : Nat) (v : State) => v.ctr ctr.toNat = n ∧ (∀ j, j ≠ ctr.toNat → v.ctr j = s.ctr j) ∧ v.yard.full = s.yard.full
    let c := s.ctr ctr.toNat
    (W % 8 = 0 → u.owned ttWrites W 8 = true →
      reaches (.ysFill a (0#64 ++ word)) (tagged W true) ∧ reaches (.ysEmpty a (0#64 ++ word)) (tagged W false)) ∧
    (W % 8 = 0 → u.owned ttReads W 8 = true →
      (inSet W s.yard.full = true → reaches (.gdExpect a (0#64 ++ word)) (fun v => v.yard = s.yard ∧ v.regs = s.regs)) ∧
      (inSet W s.yard.full = false → reaches (.gdExpect a (0#64 ++ word)) (fun v => v.yard = s.yard ∧ 5 ∈ v.seq.seen ∧
        (s.seq.seen = [] → v.b HN_GUARD_STATUS 5 = true ∧ v.rd HN_GUARD_LAST = BitVec.ofNat 64 (5 * 2 ^ 48 + s.leg.toNat) ∧
          v.rd HN_GUARD_DETAIL = BitVec.ofNat 64 ((u.cycle + 1) % 2 ^ 27 * 2 ^ 32 + (a.lane.toNat + 16) * 2 ^ 18 + a.idx.toNat))))) ∧
    (u.owned ttWrites mail 8 = true →
      reaches (.mlPublish a (0#92 ++ k)) (fun v => tagged mail true v ∧
        v.b HN_MAIL_STATUS (32 + k.toNat) = (s.b HN_MAIL_STATUS (32 + k.toNat) || inSet mail s.yard.full) ∧
        v.b HN_MAIL_STATUS (16 + k.toNat) =
          (s.b HN_MAIL_STATUS (16 + k.toNat) || (u.mailEn k.toNat && decide (u.mailD k.toNat < u.cycle + 1))))) ∧
    reaches (.ysInc a (0#32 ++ value ++ 0#20 ++ ctr)) (counts (min (c + value.toNat) (2 ^ 32 - 1))) ∧
    reaches (.ysDec a (0#32 ++ value ++ 0#20 ++ ctr)) (counts (c - value.toNat)) ∧
    (∃ t, exec (.gdNop a 0) s = .next t ∧ keeps t ∧ t.seq.windows = []) ∧
    (∃ t, exec (.gdInspect a (0#58 ++ units ++ 0#5 ++ len)) s = .next t ∧ keeps t ∧
      t.seq.windows = [(u.cycle + 1, u.cycle + len.toNat, units.toNat)]) ∧
    (∃ t, exec (.endLane a 0) s = .next t ∧ t.yard = s.yard ∧ t.regs = s.regs ∧ t.tensor = s.tensor ∧ t.core = s.core ∧
      (t.lane a.lane.toNat).ended = true ∧ ∀ i, i < 4 → i ≠ a.lane.toNat → t.lane i = u.lane i)

/-- R70, R280, R281, R307, R308: SEND reads its 256 bytes at t + 1 to t + 4 and holds its lane; STAGE discards
what was staged and reads its descriptor in the next cycle; a FIRE
that finds the shadow set valid makes it active, and a Yard-only transfer completes at t + N + 16; a FIRE that finds it empty is
discarded with COLLISION. Rests also on logs 9, 27. -/
def Obligations.TransferSlots : Prop :=
  ∀ (s : State) (a : SlotAt) (lane : BitVec 3) (dpkg : BitVec 6) (dblk ch : BitVec 4) (src dst : BitVec 29), s.slotFree a →
    let u := s.atCycle a.cycle.toNat
    (src.toNat % 256 = 0 → dst.toNat % 256 = 0 → u.owned ttReads src.toNat 256 = true →
      ∃ t j, exec (.rlSend a (0#3 ++ dst ++ 0#3 ++ src ++ 0#14 ++ dblk ++ dpkg ++ 0#5 ++ lane)) s = .next t ∧ Issued u t a ∧
        t.relay.tx = [⟨lane.toNat, u.time.toNat, none, false⟩] ∧ t.tensor.jobs = [j] ∧
        j.todo = (List.range 4).map (fun i => (u.time.toNat + 1 + i, .load i (src.toNat + 64 * i) 64)) ∧ t.yard = s.yard ∧
        t.regs = s.regs) ∧
    (u.wbBusy ch.toNat = false → u.owned ttWrites src.toNat 64 = true → src.toNat % 64 = 0 →
      ∃ t, exec (.wbStage a (0#35 ++ src ++ 0#28 ++ ch)) s = .next t ∧ Issued u t a ∧ t.yard = s.yard ∧
        t.chan ch.toNat = { s.chan ch.toNat with shadow := none } ∧ (∀ c, c < 56 → c ≠ ch.toNat → t.chan c = s.chan c) ∧
        (u.time.toNat + 4 < 2 ^ 64 →
          let v := t.advanceTo (u.cycle + 1)
          v.yard.mem = s.yard.mem ∧ v.yard.full = s.yard.full ∧ (v.chan ch.toNat).active = (s.chan ch.toNat).active ∧
            (∀ d, (v.chan ch.toNat).shadow = some d → d.firedAt = u.time.toNat + 4) ∧
            (∀ c, c < 56 → c ≠ ch.toNat → v.chan c = s.chan c))) ∧
    (∀ d : Desc, u.wbBusy ch.toNat = false → (s.chan ch.toNat).active = none → (s.chan ch.toNat).shadow = some d →
      d.firedAt ≤ u.time.toNat →
      ∃ t, exec (.wbFire a (0#92 ++ ch)) s = .next t ∧ Issued u t a ∧ (t.chan ch.toNat).shadow = none ∧
        (t.chan ch.toNat).active = some { d with firedAt := u.time.toNat, lane := a.lane.toNat, slot := a.idx.toNat } ∧
        (∀ c, c < 56 → c ≠ ch.toNat → t.chan c = s.chan c) ∧ t.yard = s.yard ∧
        ((u.yardOnly d).isSome = true → (u.time.toNat + d.len / 64 + 16, Instr.wbYardOnlyComplete ch) ∈ t.agenda)) ∧
    (u.wbBusy ch.toNat = false → (s.chan ch.toNat).active = none → (s.chan ch.toNat).shadow = none →
      exec (.wbFire a (0#92 ++ ch)) s = .next ((u.issued a).collision 3 a.lane.toNat a.idx.toNat none))

/-! ## The Waybill engine -/

/-- R260, R261, R284, R285, R286, R289, R292: a plain descriptor with both ranges in DRAM is taken into the active set where it is
free, into the shadow set where that one is, and refused with result 1 otherwise: by WBQUEUE from a core-owned group, and by a write of
the host or the Coachman from an unscheduled group on a channel of its own. WBSTAT reads the channel's status; an abort ends what the
channel holds, where only a burst whose writes have begun moves on. Rests also on log 28. -/
def Obligations.WaybillQueueing : Prop :=
  ∀ (s : State) (ch : BitVec 6) (gd ga : BitVec 5) (o : Outside) (y : Nat) (data : Word), s.opening = false →
    let c := ch.toNat
    let W := fun (i : Nat) => (BitVec.ofNat 64 (s.yard.mem.num (y + 8 * i) 8) : Word)
    let n := (W 3).toNat
    let h := s.chan c
    let op := fun (sub : BitVec 2) (d a : BitVec 5) => (0x34#6 ++ sub ++ ch ++ 0#8 ++ d ++ a : Insn)
    let others := fun (t : State) => (∀ k, k < 56 → k ≠ c → t.chan k = s.chan k) ∧ t.yard.mem = s.yard.mem ∧ t.yard.full = s.yard.full
    16 ≤ c → c < 56 →
    (y % 64 = 0 → y + 64 ≤ yardBytes → s.yard.bad = [] → s.yard.weak = [] → s.coach.commit = none → s.pieces + 2 ≤ 131072 → W 0 = 0 → 0 < n → n < 2 ^ 40 →
      fld (W 4) 31 0 = 0 → W 5 = 0 → W 6 = 0 → W 7 = 0 → s.place (W 1).toNat = .dram → localOf (W 1).toNat + n ≤ 0x18000000000 →
      s.place (W 2).toNat = .dram → localOf (W 2).toNat + n ≤ 0x18000000000 →
      let d : Desc := { descOf ((List.range 8).map W) with srcP := [((W 1).toNat, n, 0)], dstP := [((W 2).toNat, n, 0)] }
      let res := if h.active.isSome ∧ h.shadow.isSome then 1 else 0
      let queued := fun (t : State) => others t ∧ t.f (WB_CH_STATUS c) 42 40 = res ∧
        t.chan c = (if h.active = none then { h with active := some d } else if h.shadow = none then { h with shadow := some d } else h) ∧
        (h.active = none → t.f (WB_CH_USER c) 63 32 = fld (W 4) 63 32)
      (s.ready = true → 1 ≤ s.priv → s.f (WB_CH_CFG c) 1 0 = 0 → s.coreYard (s.g ga.toNat) y 64 →
        ∃ t, exec (.wbqueue (op 0 gd ga) o) s = .next t ∧ queued t ∧ Retired s t [(gd.toNat, BitVec.ofNat 64 res)]) ∧
      (∀ who, s.phase = .run → (who = .host ∧ s.f (WB_CH_CFG c) 1 0 = 1 ∨ who = .coach ∧ s.f (WB_CH_CFG c) 1 0 = 2) →
        s.owned (fun g => decide (g = 1)) y 64 = true → fld data 55 6 * 64 = s.yardPA y →
        ∃ t, exec (.wbChQueue ch who data o) s = .next t ∧ queued t)) ∧
    (∀ who, (who = .host ∧ s.f (WB_CH_CFG c) 1 0 ≠ 1 ∨ who = .coach ∧ s.f (WB_CH_CFG c) 1 0 ≠ 2) →
      exec (.wbChQueue ch who data o) s = .next s ∧ exec (.wbChAbort ch who data) s = .next s) ∧
    (s.ready = true → 1 ≤ s.priv → s.f (WB_CH_CFG c) 1 0 = 0 →
      ∃ t v, exec (.wbstat (op 2 gd 0)) s = .next t ∧ Retired s t [(gd.toNat, v)] ∧ t.yard = s.yard ∧ t.wb = s.wb ∧ t.regs = s.regs ∧
        v.getLsbD 63 = h.active.isSome ∧ v.getLsbD 62 = h.shadow.isSome ∧ ∀ i < 60, v.getLsbD i = s.b (WB_CH_STATUS c) i) ∧
    (let aborted := fun (d : Desc) => { d with
        ended := some (d.ended.getD (1, 0, 0, 0)), gated := false,
        bursts := (d.bursts.map (fun b => { b with live := b.live && decide (0 < b.put) })).filter (fun b => !b.over) }
     let stopped := fun (t : State) => others t ∧ (t.chan c).active = h.active.map aborted ∧ (t.chan c).shadow = h.shadow.map aborted ∧
        (h.active.isSome = true → t.b (WB_CH_CTRL c) 0 = true)
     (s.ready = true → 1 ≤ s.priv → s.f (WB_CH_CFG c) 1 0 = 0 →
        ∃ t, exec (.wbabort (op 1 0 0)) s = .next t ∧ stopped t ∧ Retired s t []) ∧
     (∀ who, s.phase = .run → (who = .host ∧ s.f (WB_CH_CFG c) 1 0 = 1 ∨ who = .coach ∧ s.f (WB_CH_CFG c) 1 0 = 2) →
        data.getLsbD 0 = true → ∃ t, exec (.wbChAbort ch who data) s = .next t ∧ stopped t ∧ t.core = s.core))

/-- R289, R290, R291: a translation below 2^44 that may be read moves the transfer into the host window of the own package, and what
it leaves over is asked for; a refusal, a denied read and a time-out end the descriptor with TRANSLATION_ERROR 1, 2 and 3. An
invalidation is completed at once where no descriptor uses its pages, and is held while one does. -/
def Obligations.WaybillTranslation : Prop :=
  ∀ (s : State) (ch : BitVec 6) (d : Desc) (va n : Nat) (h : Word) (len : BitVec 40) (w : Bool) (pasid : BitVec 20) (ia il : Word), s.opening = false →
    let c := ch.toNat
    let i := (pasid.toNat, ia.toNat, il.toNat)
    (c < 56 → s.chan c = ⟨some d, none, false⟩ → d.srcP = [(va, n, 0)] → d.len = n → 0 < n → d.atsSrc = some 0 → d.atsDst = none →
      d.ended = none → bit d.ctrl 10 = false →
      let pa := s.pins.pkg.toNat * 2 ^ 50 + 0x300000000000 + h.toNat
      let gives := fun (k : Instr) (e : Desc) (out : List OutMsg) => ∃ t, exec k s = .next t ∧ t.chan c = ⟨some e, none, false⟩ ∧
        t.out = s.out ++ out ∧ (∀ k, k < 56 → k ≠ c → t.chan k = s.chan k) ∧ t.yard = s.yard ∧ t.core = s.core
      (h.toNat < 2 ^ 44 → n ≤ len.toNat →
        gives (.atsCompletion ch (.ok h len true w)) { d with srcP := [(pa, n, 0)], atsSrc := none } []) ∧
      (h.toNat < 2 ^ 44 → 0 < len.toNat → len.toNat < n →
        gives (.atsCompletion ch (.ok h len true w))
          { d with srcP := [(pa, len.toNat, 0), (va + len.toNat, n - len.toNat, 0)], atsSrc := some len.toNat }
          [.atsRequest c (fld d.ctrl 63 44) (va + len.toNat)]) ∧
      gives (.atsCompletion ch .refused) { d with ended := some (5, 1, 0, 0) } [] ∧
      gives (.atsCompletion ch (.ok h len false w)) { d with ended := some (5, 2, 0, 0) } [] ∧
      gives (.atsTimeout ch) { d with ended := some (5, 3, 0, 0) } []) ∧
    (s.phase = .run → s.wb.invals = [] →
      ((∀ k, k < 56 → (s.chan k).active = none ∧ (s.chan k).shadow = none) →
        exec (.atsInvalidate pasid ia il) s = .next (s.send (.atsInvalidated i.1 i.2.1 i.2.2))) ∧
      (∀ a m, c < 56 → s.chan c = ⟨some d, none, false⟩ → d.hv = [(a, m)] → fld d.ctrl 63 44 = pasid.toNat → a < ia.toNat + il.toNat →
        ia.toNat < a + m →
        ∃ t, exec (.atsInvalidate pasid ia il) s = .next t ∧ t.out = s.out ∧ t.wb.invals = [i] ∧
          t.chan c = ⟨some { d with waits := d.waits ++ [i] }, none, false⟩ ∧ t.yard = s.yard))

/-- R264, R265, R267, R269, R271, R274, R275, R281, R293, R299: the one channel that is ready reads a burst by a request, or at once
from an own group, and writes it once it has all of it, at once into an own group and else by a request. A response carries its data, or
confirms its stretch; an error response and a time-out end the transfer with BUS_ERROR and the address. A whole transfer completes with
DONE and its done action, one that has ended with its code and the bytes left over, and the shadow set becomes the active one; a Yard-only
transfer completes the same way. Rests also on logs 21, 29. -/
def Obligations.WaybillMoves : Prop :=
  ∀ (s : State) (ch : BitVec 6) (k : BitVec 4) (d : Desc) (a b n : Nat) (bs : List Byte) (e : PAddr) (o : Outside) (sh : Option Desc),
    s.live = true →
    let c := ch.toNat
    let others := fun (t : State) (c : Nat) => ∀ j, j < 56 → j ≠ c → t.chan j = s.chan j
    -- the one burst of the transfer: bytes asked for, reads out, data, bytes written, writes out
    let burst := fun (asked : Nat) (reads : List (Nat × Nat)) (data : List Byte) (put : Nat) (writes : List (Nat × Nat)) =>
      (⟨0, a, b, n, 0, 0, asked, reads, data, put, writes, true⟩ : Burst)
    let blank := List.replicate n (0 : Byte)
    (16 ≤ c → c < 56 → s.chan c = ⟨some d, none, false⟩ → d.ended = none → d.gated = false → d.atsSrc = none → d.atsDst = none →
      bit d.ctrl 11 = false → bit d.ctrl 15 = false → d.srcP = [(a, n, 0)] → d.dstP = [(b, n, 0)] → d.len = n → d.written = [] → 0 < n →
      a % 512 + n ≤ 512 → b % 512 + n ≤ 512 → bs.length = n →
      -- the beats of the two engines
      ((∀ j, j < 56 → j ≠ c → (s.chan j).active = none) → s.testing 7 = false →
        (d.bursts = [] → d.next = 0 → s.place a = .dram → (∀ y, s.place b = .yard y → s.owned (s.mayWrite c) y n = true) →
          s.mayIssue c = true → s.blockFree c = true →
          let t := s.engineBeat
          t.chan c = ⟨some { d with bursts := [burst n [(0, n)] blank 0 []], next := n }, none, false⟩ ∧ others t c ∧
            t.out = s.out ++ [.fabRead .uns a n] ∧ t.yard = s.yard ∧ t.regs = s.regs ∧ t.wb.reader = some c) ∧
        (∀ y, d.bursts = [burst n [] bs 0 []] → d.next = n → s.place b = .yard y → s.owned (s.mayWrite c) y n = true →
          let t := s.engineBeat
          t.chan c = ⟨some { d with bursts := [], written := [(0, n)] }, none, false⟩ ∧ others t c ∧ t.yard.mem.read y n = bs ∧
            (∀ x, x < y ∨ y + n ≤ x → t.yard.mem.read x 1 = s.yard.mem.read x 1) ∧ t.yard.full = s.yard.full ∧ t.out = s.out) ∧
        (∀ x, d.bursts = [] → d.next = 0 → s.place a = .yard x → s.place b = .dram → s.owned (s.mayRead c) x n = true →
          s.yard.bad = [] → s.yard.weak = [] → s.mayIssue c = true → s.blockFree c = true →
          let data := s.yard.mem.read x n
          let t := s.engineBeat
          t.chan c = ⟨some { d with bursts := [burst n [] data n [(0, n)]], next := n }, none, false⟩ ∧ others t c ∧
            t.out = s.out ++ [.fabWrite .uns b data] ∧ t.yard = s.yard)) ∧
      -- the responses
      (d.bursts = [burst n [(0, n)] blank 0 []] → d.next = n →
        exec (.wbResponse ch (.readOk 0 bs)) s = .next (s.setActive c (some { d with bursts := [burst n [] bs 0 []] })) ∧
        (let failed := { d with bursts := [], ended := some (3, 0, 0, a) }
         exec (.wbResponse ch (.readErr 0)) s = .next (s.setActive c (some failed)) ∧
         exec (.fabricTimeout (.wbRead ch 0)) s = .next ((s.count RL_CNT_FABTO 1).setActive c (some failed)))) ∧
      (d.bursts = [burst n [] bs n [(0, n)]] → d.next = n →
        exec (.wbResponse ch (.writeOk 0)) s = .next (s.setActive c (some { d with bursts := [], written := [(0, n)] })) ∧
        (let failed := { d with bursts := [], ended := some (3, 0, 0, b) }
         exec (.wbResponse ch (.writeErr 0)) s = .next (s.setActive c (some failed)) ∧
         exec (.fabricTimeout (.wbWrite ch 0)) s = .next ((s.count RL_CNT_FABTO 1).setActive c (some failed))))) ∧
    (s.wb.strays = [c] → c < 56 →
      ∃ t, exec (.wbResponse ch .fillErr) s = .next t ∧ t.b (WB_CH_STATUS c) 36 = true ∧ t.wb = { s.wb with strays := [] } ∧ t.yard = s.yard) ∧
    (let finished := fun (t : State) (c code residue addr : Nat) => others t c ∧ t.f (WB_CH_STATUS c) 7 0 = code ∧
        t.f (WB_CH_RESIDUE c) 39 0 = residue ∧ t.f (WB_CH_ERRADDR c) 55 0 = addr ∧ t.yard.mem = s.yard.mem ∧ t.yard.full = s.yard.full ∧
        t.b (WB_CH_STATUS c) 33 = (s.b (WB_CH_STATUS c) 33 || (decide (code = 0) && bit d.ctrl 14)) ∧
        t.b (WB_CH_STATUS c) 34 = (s.b (WB_CH_STATUS c) 34 || decide (code ≠ 0))
     (16 ≤ c → c < 56 → s.chan c = ⟨some d, sh, false⟩ → (∀ x, sh = some x → bit x.ctrl 10 = false) → s.f (WB_CH_CFG c) 1 0 = 0 →
       d.bursts = [] → d.stat = 0 → d.len < 2 ^ 40 →
       (d.ended = none → d.written = [(0, d.len)] → 0 < d.len → fld d.ctrl 13 12 ≤ 1 →
         ∃ t, exec (.wbTransferComplete ch o) s = .next t ∧ finished t c 0 0 0 ∧ t.chan c = ⟨sh, none, false⟩ ∧
           (∀ j, t.ctr j = if fld d.ctrl 13 12 = 1 ∧ j = fld d.done 11 0 then min (s.ctr j + 1) (2 ^ 32 - 1) else s.ctr j)) ∧
       (d.ended = some (3, 0, 0, e.toNat) → d.written = [] →
         ∃ t, exec (.wbTransferComplete ch o) s = .next t ∧ finished t c 3 d.len e.toNat ∧ t.chan c = ⟨sh, none, false⟩ ∧
           t.yard.ctrs = s.yard.ctrs)) ∧
     (let c := k.toNat
      s.mail.draws = [] → s.relay = ⟨[], []⟩ → s.tensor.jobs = [] → s.commits = [] → s.coach.dump = none →
       (∀ j, j < 16 → j ≠ c → (s.chan j).active = none) → s.chan c = ⟨some d, sh, false⟩ → (s.yardOnly d).isSome = true →
       d.next = d.len / 64 → d.buf = [] → d.stat = 0 → d.len % 64 = 0 → d.len < 2 ^ 40 → fld d.ctrl 13 12 = 0 →
       d.firedAt + d.len / 64 + 16 ≤ s.time.toNat → d.stop = none →
       (d.lost = none → ∃ t, exec (.wbYardOnlyComplete k) s = .next t ∧ finished t c 0 0 0 ∧ t.chan c = ⟨none, sh, false⟩) ∧
       (∀ j, d.lost = some j → j < d.len / 64 →
         ∃ t, exec (.wbYardOnlyComplete k) s = .next t ∧ finished t c 7 (d.len - 64 * j) 0 ∧ t.chan c = ⟨none, sh, false⟩)))

/-! ## Horn and leg -/

/-- R54, R55, R457: the first edge of all opens the first leg. An edge before P/2 is EARLY and recorded as HORN_LOST; one from P on opens
the next leg without an event; one between cuts the leg: OVERRUN where lanes had slots left before P − M, LATE for a mail slot whose
deadline had not come. With LOST set an edge clears it and sets RESTORED. Without an edge the first local leg opens at 3P/2 with LOST and
LOST_STICKY, and the next ones at P. Under LOCAL_ONLY an edge is ignored and legs open at P with no event. Rests also on log 23. -/
def Obligations.HornEdges : Prop :=
  ∀ (s : State) (c : BitVec 27), s.live = true → s.quiet = true → s.seq.seen = [] →
    let at_ := fun (n : Nat) => s.time + BitVec.ofNat 64 (n - s.cycle)
    let opened := fun (t : State) (n : Nat) => t.opening = true ∧ t.legOpen = true ∧ t.cycle = 0 ∧ t.time = at_ n ∧ t.leg = s.leg ∧
      ((at_ n).toNat, Instr.legStart) ∈ t.agenda ∧ t.yard = s.yard ∧ t.tensor = s.tensor
    let lost := s.b HN_HORN_STATUS 1
    let quietEnd := s.P - s.M ≤ c.toNat ∨ ∀ i < 4, (s.lane i).ended = true
    let reports := fun (t : State) (kind info : Nat) => t.seq.seen = [kind] ∧ t.b HN_GUARD_STATUS kind = true ∧
      t.f HN_GUARD_DETAIL 31 18 = info
    let edge := fun (p : State → Prop) => ∃ t, exec (.hornEdge c) s = .next t ∧ p t
    let local_ := fun (p : State → Prop) => ∃ t, exec .localHorn s = .next t ∧ p t
    (s.b HN_CTRL 0 = true → exec (.hornEdge c) s = .next s) ∧
    (s.b HN_CTRL 0 = false → s.cycle ≤ c.toNat →
      (s.legOpen = false → edge (fun t => opened t c.toNat ∧ t.regs = s.regs)) ∧
      (s.legOpen = true → c.toNat < s.P / 2 →
        edge (fun t => t.opening = false ∧ t.cycle = c.toNat ∧ t.leg = s.leg ∧ t.b HN_HORN_STATUS 3 = true ∧ reports t 6 1 ∧
          t.f HN_HORN_EARLYCNT 47 0 = min (s.f HN_HORN_EARLYCNT 47 0 + 1) (2 ^ 48 - 1) ∧ t.yard = s.yard)) ∧
      (s.legOpen = true → s.P ≤ c.toNat → c.toNat < 3 * s.P / 2 → lost = false →
        edge (fun t => opened t c.toNat ∧ t.regs = s.regs ∧ t.seq = s.seq)) ∧
      (s.legOpen = true → s.P / 2 ≤ c.toNat → c.toNat < s.P →
        ((∀ k < 16, s.mailEn k = false) → lost = false → c.toNat < s.P - s.M → (∃ i < 4, (s.lane i).ended = false) →
          edge (fun t => opened t c.toNat ∧ reports t 3 s.lateLanes)) ∧
        ((∀ k < 16, s.mailEn k = false) → lost = false → quietEnd → edge (fun t => opened t c.toNat ∧ t.regs = s.regs ∧ t.seq = s.seq)) ∧
        (∀ k < 16, s.mailOn = true → s.mailEn k = true → c.toNat ≤ s.mailD k → (∀ j < 16, j ≠ k → s.mailEn j = false) → lost = false →
          quietEnd → edge (fun t => opened t c.toNat ∧ reports t 2 (k + 16))) ∧
        ((∀ k < 16, s.mailEn k = false) → lost = true → quietEnd →
          edge (fun t => opened t c.toNat ∧ t.b HN_HORN_STATUS 1 = false ∧ t.b HN_HORN_STATUS 4 = true ∧ reports t 6 2)))) ∧
    (s.b HN_CTRL 0 = false → lost = false → s.cycle ≤ 3 * s.P / 2 →
      local_ (fun t => opened t (3 * s.P / 2) ∧ t.b HN_HORN_STATUS 1 = true ∧ t.b HN_HORN_STATUS 2 = true ∧ reports t 6 0 ∧
        t.f HN_HORN_LOCALCNT 47 0 = min (s.f HN_HORN_LOCALCNT 47 0 + 1) (2 ^ 48 - 1))) ∧
    (s.b HN_CTRL 0 = false → lost = true → s.legOpen = true → s.cycle ≤ s.P →
      local_ (fun t => opened t s.P ∧ t.seq = s.seq ∧
        t.f HN_HORN_LOCALCNT 47 0 = min (s.f HN_HORN_LOCALCNT 47 0 + 1) (2 ^ 48 - 1))) ∧
    (s.b HN_CTRL 0 = true → s.legOpen = true → s.cycle ≤ s.P → local_ (fun t => opened t s.P ∧ t.seq = s.seq ∧ t.regs = s.regs))

/-- R58, R59, R79, R91, R92, R417: cycle 0 counts the leg, empties the tag word of every enabled mail slot, starts a fresh record of
the Guard, moves the timetable's state on, and applies a pending harness, whose commit is answered after cycle 63; at P − M the slots
not issued are discarded with OVERRUN. Rests also on logs 20, 23. -/
def Obligations.LegChange : Prop :=
  ∀ (s : State), s.phase = .run →
    (s.opening = true → s.coach.commit = none → s.coach.test = none → s.ostler.todo = [] →
      ∃ t, exec .legStart s = .next t ∧ t.opening = false ∧ t.leg = s.leg + 1 ∧ t.seq.seen = [] ∧ t.seq.windows = [] ∧
        t.b HN_NANINFO 63 = false ∧ t.yard.mem = s.yard.mem ∧ t.tensor = s.tensor ∧ t.core = s.core ∧
        (∀ k < 16, s.mailEn k = true → inSet (s.mailTag k) t.yard.full = false) ∧
        (∀ w, (∀ k < 16, s.mailEn k = true → s.mailTag k ≠ w) → inSet w t.yard.full = inSet w s.yard.full) ∧
        (s.b PW_STATUS 1 = false → t.f PW_MARGIN 7 0 = 255) ∧
        (let left := s.f HN_TT_STATE 11 8
         let states := fun (st n : Nat) => t.f HN_TT_STATE 2 0 = st ∧ t.f HN_TT_STATE 11 8 = n
         let first := s.leg.toNat + 1 = s.seq.runFirst
         (s.tt = 0 → states 0 left) ∧
         (s.tt = 1 → s.seq.halt = false → states 1 left ∧ ∀ im, s.seq.image = some im → ∀ i < 4,
           t.lane i = ⟨laneBase im.off im.nslot i, im.nslot.getD i 0, 0, 64, false, []⟩) ∧
         (s.tt = 1 → s.seq.halt = true → states 4 (s.f HN_CTRL 15 12)) ∧
         (s.leg.toNat + 1 < 2 ^ 48 → s.tt = 2 → s.seq.halt = false → first → states 2 left) ∧
         (s.leg.toNat + 1 < 2 ^ 48 → s.tt = 2 → s.seq.halt = false → ¬first → 0 < left → states 2 (left - 1)) ∧
         (s.leg.toNat + 1 < 2 ^ 48 → s.tt = 2 → s.seq.halt = false → ¬first → left = 0 → states 0 0 ∧ ∀ i < 4, (t.lane i).ended = true) ∧
         (s.leg.toNat + 1 < 2 ^ 48 → s.tt = 4 → ¬first → states (if left = 0 then 3 else 4) (left - 1)))) ∧
    (∀ (q : BitVec 16) (v : Word), s.opening = true → s.coach.commit = some ⟨q, false, some [(HN_PERIOD, v)], none⟩ → v.toNat < 2 ^ 27 →
      s.coach.adm = none → s.coach.test = none → s.ostler.todo = [] → s.inFlight = false →
      ∃ t, exec .legStart s = .next t ∧ t.P = v.toNat ∧ t.leg = s.leg + 1 ∧ t.rd CM_HARN_LEG = BitVec.ofNat 64 (s.leg + 1).toNat ∧
        t.coach.commit = some ⟨q, false, none, some (s.leg + 1)⟩ ∧ t.coach.staged = [] ∧
        (s.time.toNat + 64, Instr.changeoverEnd) ∈ t.agenda) ∧
    (∀ (q : BitVec 16) (soft : Bool) (l : BitVec 48), s.opening = false → s.quiet = true → s.coach.commit = some ⟨q, soft, none, some l⟩ →
      ∃ t, exec .changeoverEnd s = .next t ∧ t.cycle = max s.cycle 64 ∧
        t.coach = { s.coach with commit := none, receipts := s.coach.receipts ++
          [⟨if soft then 5 else 0x21, q, 0, true, false, 0, if soft then 0 else l.setWidth 64, 0⟩] } ∧ t.regs = s.regs ∧ t.yard = s.yard) ∧
    (s.legOpen = true → s.opening = false → s.quiet = true → s.seq.seen = [] → (∀ c < 16, (s.chan c).active = none) →
      ∃ t, exec .legMargin s = .next t ∧ t.cycle = max s.cycle (s.P - s.M) ∧ (∀ i < 4, (t.lane i).ended = true) ∧
        t.seq.seen = (if (List.range 4).all (fun i => (s.lane i).ended) then [] else [3]) ∧ t.yard = s.yard ∧ t.tensor = s.tensor)

/-! ## Mail and relay -/

/-- R86, R88, R92, R297, R314 to R316: at its deadline a slot whose tag word is full gives its buffer and the tag is emptied; one whose
tag is empty gives the substitute, with LATE; in a leg whose draws are all substituted, or in the run-out of a halt, it gives the substitute
without. Line j leaves at D + 1 + j for the slot's window, and the record after the last; a
freed MAIL credit sends what waits. Rests also on log 25. -/
def Obligations.MailDraws : Prop :=
  ∀ (s : State) (k : BitVec 4), s.live = true →
    let n := k.toNat
    let D := s.mailD n
    let tag := s.mailTag n
    let base := s.f (RL_MAIL_BASE n) 55 6 * 64
    (s.quiet = true → s.legOpen = true → s.mailEn n = true → s.cycle ≤ D → (∀ j < 16, j ≠ n → s.mailEn j = false) →
      s.fetchAt (bankOf tag) D = false → s.yard.bad = [] → s.yard.weak = [] → s.seq.substFrom = none → s.seq.seen = [] →
      let draw := fun (sub late : Bool) => ∃ t, exec (.mailDraw k) s = .next t ∧ t.cycle = D ∧ inSet tag t.yard.full = false ∧
        t.yard.mem = s.yard.mem ∧ (∀ w, w ≠ tag → inSet w t.yard.full = inSet w s.yard.full) ∧
        t.b HN_MAIL_STATUS n = (s.b HN_MAIL_STATUS n || late) ∧ t.seq.seen = (if late then [2] else []) ∧
        (let b := s.rd (if sub then HN_MAIL_SUB n else HN_MAIL_BUF n)
         let off := fld b 28 6 * 64
         let len := fld b 57 48 + 1
         t.mail.draws = [⟨n, sub, D, off, len, 0, false, s.leg.toNat⟩] ∧ (t.time.toNat + len, Instr.mailDrawRecord k) ∈ t.agenda ∧
         (s.mail.lines = [] → s.mail.held < 64 → s.fetchAt (bankOf off) (D + 1) = false →
           let v := t.advanceTo (D + 1)
           v.out = t.out ++ [.fabWrite .mail base (s.yard.mem.read off 64)] ∧ v.mail.held = s.mail.held + 1 ∧
           v.mail.draws = [⟨n, sub, D, off, len, 1, false, s.leg.toNat⟩] ∧ v.yard = t.yard))
      ((s.tt = 1 ∨ s.tt = 2) → s.seq.allSubst = false → draw (!inSet tag s.yard.full) (!inSet tag s.yard.full)) ∧
      (s.tt = 4 ∨ (s.tt = 1 ∨ s.tt = 2) ∧ s.seq.allSubst = true → draw true false)) ∧
    (∀ d : Draw, s.mail.draws = [d] → d.k = n → d.next = d.len → 0 < d.len → d.len ≤ 1024 → d.leg < 2 ^ 48 → s.mail.recs = [] →
      s.mail.held < 64 →
      ∃ t v, exec (.mailDrawRecord k) s = .next t ∧ t.mail = { s.mail with draws := [], held := s.mail.held + 1 } ∧
        t.out = s.out ++ [.fabWrite .mail (base + 0x10000) (toBytes 8 (v : Word).toNat)] ∧ t.yard = s.yard ∧ t.regs = s.regs ∧
        v.getLsbD 63 = d.sub ∧ v.getLsbD 62 = d.drop ∧ fld v 61 58 = n ∧ fld v 57 48 = d.len - 1 ∧ fld v 47 0 = d.leg) ∧
    (0 < s.mail.held →
      (∀ a bs r, s.mail.lines = (a, bs) :: r → ∃ t, exec .mailLineSend s = .next t ∧ t.mail = { s.mail with lines := r } ∧
        t.out = s.out ++ [.fabWrite .mail a bs] ∧ t.yard = s.yard ∧ t.regs = s.regs) ∧
      (s.mail.lines = [] → s.mail.recs = [] →
        exec .mailLineSend s = .next { s with mail := { s.mail with held := s.mail.held - 1 } }))

/-- R307, R309, R310, R311, R313, R318: a sound frame to a relay-receive group waits for its landing cycle TX + ROUTE + 36, and lands
there: 256 bytes are written, their 32 words set full, the frame counted, its skew and landing cycle shown. A frame with a bad CRC
counts and is recorded as RELAY_LOSS; one that comes too late, or that a port was receiving as it left the lane, is refused with reason 2 or
6; a lane that is off, or whose port is under test, receives nothing. -/
def Obligations.RelayFrames : Prop :=
  ∀ (s : State) (l : BitVec 3) (f : BitVec 2208) (a : BitVec 27), s.live = true → s.quiet = true → s.cycle ≤ a.toNat → s.tt = 0 →
    s.seq.windows = [] →
    let n := l.toNat
    let dst := fld f 36 16 * 256
    let T := fld f 90 64 + s.f (RL_LANE_CFG n) 19 0
    let L := T + 36
    let on := s.b (RL_LANE_CFG n) 63 && s.pins.lock.getLsbD (s.port n) && !s.portTest (s.port n)
    let refused := fun (leaving : Bool) (reason : Nat) => ∃ t, exec (.relayFrameArrival l f a leaving) s = .next t ∧
      t.f (RL_CNT_REFUSED n) 47 0 = min (s.f (RL_CNT_REFUSED n) 47 0 + 1) (2 ^ 48 - 1) ∧ t.f (RL_LANE_STATUS n) 58 56 = reason ∧
      t.relay = s.relay ∧ t.yard = s.yard ∧ t.seq = s.seq
    (s.b (RL_LANE_CFG n) 63 = true → n ∈ s.ostler.moved → refused true 6) ∧
    (on = false → ∃ t, exec (.relayFrameArrival l f a false) s = .next t ∧ t.relay = s.relay ∧ t.yard = s.yard ∧ t.regs = s.regs) ∧
    (on = true → frameCrcOk f = false → s.seq.seen = [] →
      ∃ t, exec (.relayFrameArrival l f a false) s = .next t ∧ t.f (RL_CNT_CRC n) 47 0 = min (s.f (RL_CNT_CRC n) 47 0 + 1) (2 ^ 48 - 1) ∧
        t.seq.seen = [5] ∧ t.relay = s.relay ∧ t.yard = s.yard) ∧
    (on = true → frameCrcOk f = true → fld f 63 37 = 0 → fld f 15 10 = 0 → fld f 127 109 = 0 → fld f 95 91 = 0 →
      fld f 9 6 = s.pins.blk.toNat → fld f 5 0 = s.pins.pkg.toNat → dst ≤ 0x17FFFF00 →
      (L < a.toNat → refused false 2) ∧
      (a.toNat ≤ L → L + 4 ≤ s.P → s.owner dst = 2 →
        ∃ t, exec (.relayFrameArrival l f a false) s = .next t ∧ t.yard = s.yard ∧ t.regs = s.regs ∧
          t.relay.landing = [⟨n, t.time.toNat, dst, L, (a.toNat : Int) - T, ((frameBytes f).drop 16).take 256, 0, false⟩] ∧
          ∃ v, exec (.relayFrameLanding l) t = .next v ∧ v.relay.landing = [] ∧ v.cycle = L + 3 ∧
            v.yard.mem.read dst 256 = ((frameBytes f).drop 16).take 256 ∧
            (∀ x, x < dst ∨ dst + 256 ≤ x → v.yard.mem.read x 1 = s.yard.mem.read x 1) ∧
            (∀ i < 32, inSet (dst + 8 * i) v.yard.full = true) ∧
            (∀ w, (∀ i < 32, w ≠ dst + 8 * i) → inSet w v.yard.full = inSet w s.yard.full) ∧
            v.f (RL_CNT_RX n) 47 0 = min (s.f (RL_CNT_RX n) 47 0 + 1) (2 ^ 48 - 1) ∧ v.f (RL_LANE_STATUS n) 26 0 = L ∧
            (v.f (RL_LANE_STATUS n) 47 40 : Int) = (max (-128) (min 127 ((a.toNat : Int) - T))) % 256))

/-- R86, R303, R308, R312, R444: a port that goes down is counted, sets DOWN of its lane, and loses the frame in transmission,
not one whose first transmit cycle has not come; one that comes up is usable; new drag levels are shown, devices above tolerance recorded, and UNS credits withheld while there are any. -/
def Obligations.LanesAndDrag : Prop :=
  ∀ (s : State) (p : BitVec 4) (l : Nat) (levels : BitVec 24), s.live = true →
    (p.toNat < 9 → s.pins.lock.getLsbD p.toNat = true → l < 8 → s.port l = p.toNat → (∀ j < l, s.port j ≠ p.toNat) →
      ∃ t, exec (.laneDown p) s = .next t ∧ (∀ j < 9, t.pins.lock.getLsbD j = (decide (j ≠ p.toNat) && s.pins.lock.getLsbD j)) ∧
        t.b (RL_LANE_STATUS l) 62 = true ∧ t.f (HL_ERR_LANE p.toNat) 47 0 = min (s.f (HL_ERR_LANE p.toNat) 47 0 + 1) (2 ^ 48 - 1) ∧
        t.yard = s.yard ∧ (s.relay.tx = [] → t.out = s.out ∧ t.relay = s.relay) ∧
        (∀ x, s.relay.tx = [⟨l, x, none, true⟩] →
          t.out = s.out ++ [.relayLost l] ∧ t.relay.tx = [⟨l, x, none, false⟩] ∧ t.b (RL_LANE_STATUS l) 61 = true) ∧
        (∀ x f, s.relay.tx = [⟨l, x, f, false⟩] → t.out = s.out ∧ t.relay = s.relay)) ∧
    (p.toNat < 9 → ∃ t, exec (.laneUp p) s = .next t ∧ (∀ j < 9, t.pins.lock.getLsbD j = (decide (j = p.toNat) || s.pins.lock.getLsbD j)) ∧
      { t with pins := s.pins } = s) ∧
    (∃ t, exec (.dragChange levels) s = .next t ∧ t.f RL_DRAG 23 0 = levels.toNat ∧
      (let above := fun (d : Nat) => decide (s.f HN_CTRL 11 10 < levels.toNat / 4 ^ d % 4)
       (∀ d < 12, t.b RL_DRAG (32 + d) = (s.b RL_DRAG (32 + d) || above d)) ∧
       t.b RL_DRAG 63 = (s.b RL_DRAG 63 || (List.range 12).any above)) ∧
      (∀ o, o ≠ RL_DRAG → t.rd o = s.rd o) ∧ { t with regs := s.regs, hw := s.hw } = s)

/-! ## Resets -/

/-- R435 to R437, R440, R452 (logs 5, 12, 13 for what they leave open): what power-on and block reset leave, what a write to PW_RESET
asks for, and the end of a reset. -/
def Obligations.Resets : Prop :=
  ∀ (s : State) (pkg : BitVec 6) (blk clamp : BitVec 4) (data : Word),
    (∃ t, exec (.powerOnReset pkg blk clamp) s = .next t ∧ t.phase = .powerOn ∧ t.pins = ⟨pkg, blk, clamp, s.pins.lock⟩ ∧
      (∀ o, t.rd o = resetOf o) ∧ t.leg = 0 ∧ t.time = 0 ∧ t.yard = Yard.reset ∧ (∀ a, t.yard.mem.read a 1 = [0]) ∧ t.yard.full = [] ∧
      t.core.run = .held ∧ t.coach.staged = [] ∧ t.coach.adm = none ∧ t.pending = s.pending) ∧
    (s.phase ≠ .powerOn → (∀ c < 56, (s.chan c).active = none ∧ (s.chan c).shadow = none) →
      ∃ t, exec .blockReset s = .next t ∧ t.phase = .block ∧ t.pins = s.pins ∧ t.leg = s.leg ∧ t.time = s.time ∧
        t.yard.mem = s.yard.mem ∧ t.yard.full = [] ∧ t.yard.room = [] ∧ (∀ i, t.ctr i = 0) ∧ (∀ n, t.mboxFull n = false) ∧
        t.tensor = Tensor.reset ∧ t.core.run = .held ∧ t.coach.adm = none ∧ t.coach.staged = [] ∧ t.pending = s.pending ∧
        (∀ q < 8, t.rd (MX_CARMAP q) = s.rd (MX_CARMAP q)) ∧
        (∀ o ∈ [YD_GMAP, RL_LANEMAP, PW_BOOTPC, HL_THRESH], t.rd o = s.rd o) ∧
        (∀ i < 6, ∀ m ∈ [HL_DEAD, HL_FENCE, HL_PASS, HL_REINST], t.rd (m i) = s.rd (m i)) ∧
        t.b PW_CORE 0 = false ∧ t.b PW_CORE 1 = s.b PW_CORE 1 ∧ (∀ o ∈ [PW_CAP, PW_CLKCTL, PW_MARGIN, PW_STATUS], t.rd o = resetOf o) ∧
        (∀ o, o / 0x10000 ∈ [0, 2, 3, 5, 7, 8, 9] → t.rd o = resetOf o) ∧ (∀ g < 256, t.rd (YD_OWNER g) = 1)) ∧
    (s.phase = .powerOn → exec .blockReset s = .next s) ∧
    (s.phase = .run → fld data 15 8 = 0xA5 → data.getLsbD 0 = true → exec (.pwResetBlock data) s = exec .blockReset s) ∧
    (fld data 15 8 ≠ 0xA5 ∨ data.getLsbD 0 = false → exec (.pwResetBlock data) s = .next s) ∧
    (s.phase ≠ .run → ∃ t, exec .resetComplete s = .next t ∧ t.phase = .run ∧ t.b PW_STATUS 0 = true ∧ t.legOpen = false ∧
      t.cycle = 0 ∧ t.out = s.out ++ [.credits] ∧ (∀ o, o ≠ PW_STATUS → t.rd o = s.rd o) ∧ t.yard = s.yard ∧ t.core = s.core)

/-- R355, R357, R438, R452, R455: RUN starts a held core at PW_BOOTPC; a core-only reset that completes leaves the SC and SP
registers reset but SC_RSTINFO, the caches empty, and the core held, or started with AUTORUN, and answers RESET; a requested halt and a
breakpoint stop the core with its pc in DB_PC and the reason in DB_STATUS, RESUME restarts a halted core at DB_PC, where its breakpoint
lets it pass, and stays set for one that runs (log 48); TIMER is pending once YD_TIME
has reached SC_TCMP. Rests also on logs 12, 48. -/
def Obligations.CoreControl : Prop :=
  ∀ (s : State) (data : Word) (o : Outside), s.live = true → s.askedAgain PW_CORE 0 = false →
    s.askedAgain DB_CTRL 1 = false → s.askedAgain DB_CTRL 2 = false →
    let boot : Word := BitVec.ofNat 64 (s.f PW_BOOTPC 55 2 * 4)
    (s.core.run = .held → data.getLsbD 0 = true →
      ∃ t, exec (.pwCoreRun data) s = .next t ∧ t.core = { s.core with run := .run, pc := boot } ∧ t.b PW_CORE 0 = false ∧
        t.b PW_CORE 1 = data.getLsbD 1 ∧ (∀ o, o ≠ PW_CORE → t.rd o = s.rd o) ∧ t.yard = s.yard) ∧
    ((s.core.run ≠ .held ∨ data.getLsbD 0 = false) →
      ∃ t, exec (.pwCoreRun data) s = .next t ∧ t.core = s.core ∧ t.b PW_CORE 0 = (s.b PW_CORE 0 || data.getLsbD 0) ∧
        t.b PW_CORE 1 = data.getLsbD 1 ∧ t.yard = s.yard) ∧
    (s.core.run = .resetting → s.core.saves = [] → s.core.sb = [] → s.core.l2 = [] →
      ∃ t, exec (.coreResetComplete o) s = .next t ∧
        (∀ r, r ≠ SC_RSTINFO → (r / 0x10000 = 7 ∨ r / 0x10000 = 8) → t.rd r = resetOf r) ∧ t.rd SC_RSTINFO = s.rd SC_RSTINFO ∧
        (∀ r, r / 0x10000 < 7 → t.rd r = s.rd r) ∧ t.core.l1d = [] ∧ t.core.l1i = [] ∧ t.core.l2 = [] ∧ t.yard = s.yard ∧
        t.tensor = s.tensor ∧ t.b PW_CORE 0 = false ∧
        (s.b PW_CORE 1 = true → t.core.run = .run ∧ t.core.pc = boot) ∧ (s.b PW_CORE 1 = false → t.core.run = .held) ∧
        t.coach.receipts = s.coach.receipts ++ s.core.resetSeq.toList.map (fun q => ⟨5, q, 0, true, false, 0, 0, 0⟩)) ∧
    (let halts := fun (c : Instr) (status : Word) => ∃ t, exec c s = .next t ∧ t.core = { s.core with run := .halted } ∧
        t.rd DB_PC = s.core.pc ∧ t.rd DB_STATUS = status ∧ t.b DB_CTRL 1 = false ∧ t.tensor = s.tensor ∧ t.yard = s.yard
     s.core.run = .run → s.core.wait = none → s.noTensor = true → s.yard.room = [] → s.yard.wakes = [] →
      s.yard.ungating = [] → s.yard.tail = [] → s.b DB_CTRL 2 = false →
      (data.getLsbD 0 = true → data.getLsbD 1 = true → data.getLsbD 2 = false → s.b DB_CTRL 1 = false → halts (.dbHaltreq data) 5) ∧
      (∀ i : BitVec 2, s.breakpoint = some i.toNat → halts (.debugBreakpoint i) (BitVec.ofNat 64 (i.toNat * 16 + 9)))) ∧
    (s.b DB_CTRL 1 = false → s.b DB_CTRL 2 = false → data.getLsbD 2 = true → data.getLsbD 1 = false →
      ∃ t, exec (.dbResume data) s = .next t ∧ t.b DB_CTRL 0 = data.getLsbD 0 ∧ t.yard = s.yard ∧ t.tensor = s.tensor ∧
        (s.core.run = .halted → t.b DB_STATUS 0 = false ∧ t.b DB_CTRL 2 = false ∧
          t.core = { s.core with run := .run, pc := s.rd DB_PC, passBp := some (s.rd DB_PC) }) ∧
        (s.core.run ≠ .halted → t.b DB_CTRL 2 = true ∧ t.core = s.core)) ∧
    (s.quiet = true → s.time.toNat ≤ (s.rd SC_TCMP).toNat →
      ∃ t, exec .timerExpiry s = .next t ∧ t.time = s.rd SC_TCMP ∧ t.cycle = s.cycle + ((s.rd SC_TCMP).toNat - s.time.toNat) ∧
        t.irqPending 0x2E = true ∧ t.regs = s.regs ∧ t.yard = s.yard ∧ t.core = s.core)

/-! ## The MMIO window -/

/-- R8, R11 to R13, R46, R47, R252, R253, R257: a write changes the RW bits of a register in the half it addresses, clears W1C bits where
it is 1, and leaves RO registers; bits that hardware has set in the same ACLK stay set. A write to a SAT counter leaves what it has counted
in that ACLK. A misaligned write, and one from another block, does nothing. YD_DBG_SEL starts a read-out, which shows an object's value and
tag; HWRESET sets the high-water mark to the entries in use. -/
def Obligations.RegisterAccess : Prop :=
  ∀ (s : State) (who : Writer) (off : BitVec 24) (sz8 : Bool) (data : Word), s.live = true →
    let puts := fun (at_ o : Nat) (sz : Bool) (v : Word) =>
      exec (.registerWrite .host (BitVec.ofNat 24 at_) sz data) s = .next (s.wr o v)
    let free := fun (o : Nat) (m : Word) => m &&& ~~~(s.held o)
    (∀ r ∈ [(HN_GUARD_IRQ, (0xFFFFFFF0 : Word)), (YD_IRQ, 0xFF), (CM_NOTIFY_CFG, 0xFFFFFFFF000000FF), (CM_BOOK_BASE, 0xFFFFFFFFFFFC00), (PW_BOOTPC, 0xFFFFFFFFFFFFFC), (HL_THRESH, 0x8000FFFFFFFFFFFF)],
      let m := free r.1 r.2
      let half : Word := m &&& 0xFFFFFFFF00000000
      puts r.1 r.1 true ((s.rd r.1 &&& ~~~m) ||| (data &&& m)) ∧
      puts (r.1 + 4) r.1 false ((s.rd r.1 &&& ~~~half) ||| ((data <<< 32) &&& half))) ∧
    (∀ r ∈ [(HN_GUARD_STATUS, (0xFE : Word)), (HN_MAIL_STATUS, 0xFFFFFFFFFFFF), (MX_FLAGS, 0xC7), (CM_STATUS, 7), (PW_EVENT, 3), (RL_LANE_STATUS 0, 0x6000000000000000)],
      puts r.1 r.1 true (s.rd r.1 &&& ~~~(data &&& free r.1 r.2)) ∧
      ∀ i, r.2.getLsbD i = true → (s.setB r.1 i true).held r.1 &&& maskOf i i = maskOf i i) ∧
    (∀ o ∈ [HN_YS_MISS, MX_CNT_DONE, YD_NWFAIL_CNT, WB_CNT_BYTES, CM_CNT_PACKETS],
      puts o o true ((s.rd o &&& 0xFFFF000000000000) ||| BitVec.ofNat 64 (min (s.counted o) (2 ^ 48 - 1))) ∧
      ∀ n, (s.count o n).counted o = s.counted o + n) ∧
    (∀ o ∈ [HN_LEG, HN_TT_STATE, HN_PERIOD, MX_SEED, TF_INUSE, VX_VL, YD_TIME, CM_IDENT, CM_BOOK_HEAD, PW_ENERGY, HL_TEST],
      puts o o true (s.rd o)) ∧
    (off.toNat % (if sz8 then 8 else 4) ≠ 0 → exec (.registerWrite who off sz8 data) s = .next s) ∧
    exec (.registerWrite .block off sz8 data) s = .next s ∧
    (who = .host ∨ who = .core ∧ s.priv = 2 → s.b YD_DBG_SEL 63 = true →
      exec (.ydDbgSel who data) s = .next (s.wr YD_DBG_SEL (data &&& 0x7FFFFFFF))) ∧
    (s.b YD_DBG_SEL 63 = false → s.yard.bad = [] → s.yard.weak = [] →
      let n := s.f YD_DBG_SEL 28 0
      let shows := fun (v : Word) (b : Bool) => ∃ t, exec .dbgReadoutDone s = .next t ∧ t.rd YD_DBG_VALUE = v ∧
        t.rd YD_DBG_STATE = (if b then 1 else 0) ∧ t.b YD_DBG_SEL 63 = true ∧ t.yard = s.yard ∧ t.core = s.core
      (s.f YD_DBG_SEL 30 29 = 0 → n < yardBytes → n % 8 = 0 → shows (s.yWord n) (inSet n s.yard.full)) ∧
      (s.f YD_DBG_SEL 30 29 = 1 → n < 4096 → shows (BitVec.ofNat 64 (s.ctr n)) false) ∧
      (s.f YD_DBG_SEL 30 29 = 2 → n < 256 → shows (s.mboxVal n) (s.mboxFull n))) ∧
    (who = .host ∨ who = .core ∧ s.priv = 2 → data.getLsbD 63 = true → s.yard.room.length ≤ 4096 →
      ∃ t, exec (.hwreset who data) s = .next t ∧ t.f YD_WR_STATUS 28 16 = s.yard.room.length ∧ (∀ o, o ≠ YD_WR_STATUS → t.rd o = s.rd o) ∧
        { t with regs := s.regs } = s)

/-! ## Power -/

/-- R429 to R432: a telemetry sample counts in its leg and marks telemetry present; the oldest leg that has ended is written to
PW_ENERGY and its excess remembered; the loss of telemetry and the fourth base window in a row above the cap raise a power event;
turbo needs telemetry, and the last window's power with 20 W more within the cap while nothing is lent. Rests also on log 43. -/
def Obligations.Power : Prop :=
  ∀ (s : State) (x : BitVec 32), s.live = true →
    let event := fun (t : State) (i : Nat) => t.b PW_EVENT i = true ∧ t.b SC_IPEND 41 = true ∧ t.b HL_ALERT 2 = true
    (∃ t, exec (.energySample x) s = .next t ∧ t.b PW_STATUS 1 = true ∧ (∀ o, o ≠ PW_STATUS → t.rd o = s.rd o) ∧
      t.power = { s.power with uj := s.power.uj + (if s.legOpen then x.toNat else 0), quiet := false } ∧
      { t with regs := s.regs, power := s.power } = s) ∧
    (∀ leg uj decl rest, s.power.ended = (leg, uj, decl) :: rest → leg < 2 ^ 32 → uj < 2 ^ 32 →
      ∃ t, exec .legEnergyWrite s = .next t ∧ t.f PW_ENERGY 63 32 = leg ∧ t.f PW_ENERGY 31 0 = uj ∧ t.power.ended = rest ∧
        t.power.hist.getLast? = some (uj - decl) ∧ (s.power.hist.length ≤ 16 → t.power.hist.length ≤ 16) ∧
        (∀ o, o ≠ PW_ENERGY → t.rd o = s.rd o) ∧ { t with regs := s.regs, power := s.power } = s) ∧
    (s.power.quiet = false → s.coach.receipts = [] →
      ∃ t, exec .telemetryLost s = .next t ∧ event t 1 ∧ t.b PW_STATUS 1 = false ∧ t.b PW_STATUS 2 = false ∧ t.f PW_MARGIN 7 0 = 255 ∧
        t.coach.receipts = [⟨0x8004, 0, 0, true, true, 7, s.leg.setWidth 64, 0⟩] ∧ t.yard = s.yard ∧ t.tensor = s.tensor) ∧
    (s.power.quiet = true → exec .telemetryLost s = .next s) ∧
    (s.core.run ≠ .wait → s.yard.room = [] → s.coach.receipts = [] →
      let cap := s.f PW_CAP 10 0 * 125
      let base := !s.b PW_STATUS 2
      ∃ t, exec (.powerWindowEnd x) s = .next t ∧ t.b PW_STATUS 2 = (s.b PW_STATUS 1 && decide (x.toNat + 20000 ≤ cap)) ∧
        t.f PW_CNT_BASE 47 0 = min (s.f PW_CNT_BASE 47 0 + (if base then 1 else 0)) (2 ^ 48 - 1) ∧
        (s.power.runs = 3 ∧ base = true ∧ cap < x.toNat → event t 0 ∧
          t.coach.receipts = [⟨0x8004, 0, 0, true, true, 6, s.leg.setWidth 64, 0⟩]) ∧
        (¬(s.power.runs = 3 ∧ base = true ∧ cap < x.toNat) → t.rd PW_EVENT = s.rd PW_EVENT ∧ t.coach = s.coach) ∧
        (x.toNat ≤ cap → t.power.runs = 0) ∧ t.yard = s.yard ∧ t.tensor = s.tensor ∧ t.core = s.core)

/-! ## Booking -/

/-- R393 to R396: EN from 0 to 1 takes sound rings into use with zero indices, and sets RING_ERR otherwise; the doorbell moves the
tail, and an overrun is a RING_ERR; a receipt is written at its place with its phase and moves the tail; the notify write follows. -/
def Obligations.Rings : Prop :=
  ∀ (s : State) (data : Word), s.live = true →
    let bl := fld data 11 8
    let rl := fld data 15 12
    let bb := s.f CM_BOOK_BASE 55 10 * 1024
    let rb := s.f CM_RCPT_BASE 55 10 * 1024
    let inHost := fun (a n : Nat) => a % n = 0 ∧ s.place a = .host ∧ s.place (a + n - 1) = .host
    (s.b CM_CTRL 0 = false → data.getLsbD 0 = true →
      (4 ≤ bl → bl ≤ 12 → 5 ≤ rl → rl ≤ 13 → inHost bb (2 ^ bl * 64) → inHost rb (2 ^ rl * 32) →
        ∃ t, exec (.cmCtrlEnable data) s = .next t ∧ t.b CM_CTRL 0 = true ∧ t.coach = { s.coach with rings := (bb, bl, rb, rl), noTake := false, noPost := false, badRead := none } ∧
          (∀ o ∈ [CM_BOOK_TAIL, CM_BOOK_HEAD, CM_RCPT_TAIL, CM_RCPT_HEAD], t.rd o = 0) ∧ t.yard = s.yard ∧ t.out = s.out) ∧
      ((bl < 4 ∨ 12 < bl ∨ rl < 5 ∨ 13 < rl ∨ bb % (2 ^ bl * 64) ≠ 0 ∨ s.place bb = .unmapped) →
        ∃ t, exec (.cmCtrlEnable data) s = .next t ∧ t.b CM_CTRL 0 = false ∧ t.b CM_STATUS 0 = true ∧ t.coach = s.coach)) ∧
    (data.getLsbD 0 = false → ∃ t, exec (.cmCtrlEnable data) s = .next t ∧ t.b CM_CTRL 0 = false ∧ t.coach = s.coach ∧ t.yard = s.yard) ∧
    (s.b CM_CTRL 0 = true →
      let n := (fld data 31 0 + 2 ^ 32 - s.f CM_BOOK_HEAD 31 0) % 2 ^ 32
      let rung := fun (e : Option (BitVec 32)) (err : Bool) (k : Coach) => ∃ t, exec (.bookingDoorbell data e) s = .next t ∧
        t.f CM_BOOK_TAIL 31 0 = fld data 31 0 ∧ t.b CM_STATUS 0 = (s.b CM_STATUS 0 || err) ∧ t.coach = k ∧ t.yard = s.yard ∧
        t.tensor = s.tensor ∧ t.core = s.core
      (n ≤ 2 ^ s.coach.rings.2.1 → rung none false s.coach) ∧
      (2 ^ s.coach.rings.2.1 < n → rung none true { s.coach with noTake := true }) ∧
      (∀ i : BitVec 32, 0 < n → n ≤ 2 ^ s.coach.rings.2.1 → s.coach.noTake = false →
        (i.toNat = s.f CM_BOOK_HEAD 31 0 → rung (some i) true { s.coach with noTake := true, badRead := some i.toNat }) ∧
        (i.toNat ≠ s.f CM_BOOK_HEAD 31 0 → rung (some i) false { s.coach with badRead := some i.toNat }))) ∧
    (∀ r rest, s.coach.receipts = r :: rest → s.b CM_CTRL 0 = true → s.coach.noPost = false → s.b RL_DRAG 63 = false → s.coach.lost = 0 →
      let N := 2 ^ s.coach.rings.2.2.2
      let i := s.f CM_RCPT_TAIL 31 0
      let bytes := toBytes 2 r.op.toNat ++ toBytes 2 r.seq.toNat ++ [r.status,
        BitVec.ofNat 8 ((i / N + 1) % 2 + (if r.final then 2 else 0) + (if r.unsol then 4 else 0)), 0, 0] ++ toBytes 8 r.detail.toNat ++
        toBytes 8 r.d16.toNat ++ toBytes 8 r.d24.toNat
      let out := s.out ++ [.fabWrite .uns (s.coach.rings.2.2.1 + 32 * (i % N)) bytes]
      (s.gap CM_RCPT_TAIL CM_RCPT_HEAD < N →
        (∃ t, exec (.receiptPost true) s = .next t ∧ t.out = out ∧ t.f CM_RCPT_TAIL 31 0 = (i + 1) % 2 ^ 32 ∧
          t.coach = { s.coach with receipts := rest, notify := true } ∧ (∀ o, o ≠ CM_RCPT_TAIL → t.rd o = s.rd o)) ∧
        (∃ t, exec (.receiptPost false) s = .next t ∧ t.b CM_STATUS 1 = true ∧ t.f CM_RCPT_TAIL 31 0 = i ∧
          t.coach = { s.coach with noTake := true, noPost := true })) ∧
      (N ≤ s.gap CM_RCPT_TAIL CM_RCPT_HEAD → exec (.receiptPost true) s = .next s)) ∧
    (s.b CM_CTRL 0 = true → s.coach.noPost = false → s.b RL_DRAG 63 = false → s.coach.notify = true → s.f CM_NOTIFY_ADDR 55 2 ≠ 0 →
      ∃ t, exec (.notifyWrite true) s = .next t ∧
        t.out = s.out ++ [.fabWrite .uns (s.f CM_NOTIFY_ADDR 55 2 * 4) (toBytes 4 (s.f CM_NOTIFY_CFG 63 32))] ∧
        t.coach = { s.coach with notify := false } ∧ t.regs = s.regs) ∧
    (s.coach.notify = false → exec (.notifyWrite true) s = .next s)

/-- R400, R401, R402: the first answers of every packet: IMAGE_INVALID in HELD, UNKNOWN_OPCODE for an unassigned opcode, and
REJECTED_INCONSISTENT at offset 4 for a reserved flag; a packet with BARRIER waits while a command is in the background; one whose read fails is a RING_ERR (R394). R420: TT_WITHDRAW
clears PENDING, ends the admission, and answers OK even with nothing admitted. -/
def Obligations.BookingRefusals : Prop :=
  ∀ (s : State) (p : Packet) (q : Nat × Instr), s.taking → q ∈ bookings p →
    (fld p 32 32 = 0 →
      (s.f CM_STATE 2 0 = 1 → fld p 15 0 = q.1 → ∃ t, exec q.2 s = .next t ∧ Answered s t p 8 0 0 0 [] s.coach) ∧
      (s.f CM_STATE 2 0 ≠ 1 → 0x50 < fld p 15 0 → ∃ t, exec q.2 s = .next t ∧ Answered s t p 4 0 0 0 [] s.coach) ∧
      (s.f CM_STATE 2 0 ≠ 1 → fld p 15 0 = q.1 → fld p 39 33 ≠ 0 → ∃ t, exec q.2 s = .next t ∧ Answered s t p 2 4 0 0 [] s.coach)) ∧
    (p.getLsbD 32 = true → s.background ≠ 0 → exec q.2 s = .next s) ∧
    (packetForm p 0x31 0 → s.f CM_STATE 2 0 = 3 → s.feature featTimetable = true → s.coach.admitting = none → s.coach.commit = none →
      ∃ t, exec (.ttWithdraw p) s = .next t ∧ Answered s t p 0 0 0 0 [HN_TT_STATE] { s.coach with adm := none } ∧
        t.b HN_TT_STATE 16 = false ∧ ∀ i, i ≠ 16 → t.b HN_TT_STATE i = s.b HN_TT_STATE i)

/-- R403 to R406, R409: IDENTIFY, the negotiation, CORE_ALERT and FW_LOAD, with what each answers. Rests also on log 34. -/
def Obligations.BookingIdentity : Prop :=
  ∀ (s : State) (p : Packet), s.taking →
    let st := s.f CM_STATE 2 0
    let word : BitVec 128 := p.extractLsb' 128 128
    (packetForm p 1 0 → st ≠ 1 →
      ∃ t, exec (.identify p) s = .next t ∧ Answered s t p 0 (s.readReg CM_STATE).1 (s.rd CM_IDENT) (s.rd CM_FWVER) [] s.coach) ∧
    (packetForm p 2 16 → st = 2 →
      ∃ t, exec (.featureOffer p) s = .next t ∧
        Answered s t p 0 0 (BitVec.ofNat 64 (word.toNat % 2 ^ 11)) 0 [] { s.coach with offer := some word }) ∧
    (packetForm p 3 16 →
      (st = 0 → ∃ t, exec (.featureAccept p) s = .next t ∧ Answered s t p 5 0xFF 0 0 [] s.coach) ∧
      (st = 2 → ∃ t w, exec (.featureAccept p) s = .next t ∧ Answered s t p 0 0 w 0 [CM_FEAT 0, CM_FEAT 1, CM_STATE] s.coach ∧
        t.rd (CM_FEAT 0) = w ∧ t.rd (CM_FEAT 1) = 0 ∧ t.f CM_STATE 2 0 = 3 ∧
        ∀ i, w.getLsbD i = (decide (i < 11) && word.getLsbD i && (s.coach.offer.all (fun o => o.getLsbD i)) &&
          (!([1, 2, 7].contains i) || (word.getLsbD 0 && s.coach.offer.all (fun o => o.getLsbD 0)))))) ∧
    (packetForm p 4 0 → st = 3 →
      ∃ t, exec (.coreAlert p) s = .next t ∧ Answered s t p 0 0 0 0 [SC_IPEND] s.coach ∧
        ∀ i, t.b SC_IPEND i = (decide (i = 41) || s.b SC_IPEND i)) ∧
    (packetForm p 0x10 16 → st = 0 →
      let a := pNum p 16 8
      let n := pNum p 24 8
      a % 64 = 0 → 0 < n → s.place a = .dram → s.place (a + (n - 1)) = .dram →
      (∃ t, exec (.fwLoad p none) s = .next t ∧ Answered s t p 0x0A 0 0 0 [] s.coach) ∧
      (∀ bs : List Byte, bs.length = n → imageBad bs = false →
        let v := imNum bs 8 8
        ∃ t, exec (.fwLoad p (some bs)) s = .next t ∧
          (let refused := fun (r : Nat) => Answered s t p 8 0 0 0 [CM_STATE] s.coach ∧ t.f CM_STATE 2 0 = 1 ∧ t.f CM_STATE 15 8 = r
           if Config.sigValid bs = false then refused 1
           else if v < Config.versionFloor then refused 2
           else Answered s t p 0 0 (BitVec.ofNat 64 v) 0 [CM_STATE, CM_FWVER] { s.coach with image := bs } ∧ t.f CM_STATE 2 0 = 2 ∧
             t.rd CM_FWVER = BitVec.ofNat 64 v)))

/-- R414 to R417, R419, R421: HARNESS_SET stages a setting, HARNESS_READ gives a register in force or as staged, HARNESS_DISCARD
empties the staging, HARNESS_COMMIT is checked and then pending or refused with its first rule, one with nothing
staged passing every check (R418); TT_ADMIT is checked and answered,
STOP starts the run-out. Rests also on logs 40, 44. -/
def Obligations.BookingHarness : Prop :=
  ∀ (s : State) (p : Packet) (q : BitVec 16) (v : Word),
    let o := pNum p 16 3
    let seq : BitVec 16 := p.extractLsb' 16 16
    (s.taking → s.f CM_STATE 2 0 = 3 → s.coach.admitting = none → s.coach.commit = none →
      (packetForm p 0x20 12 → pNum p 19 1 = 0 →
        let x : Word := BitVec.ofNat 64 (pNum p 20 8)
        (harnessMask o ≠ 0 → x &&& ~~~harnessMask o = 0 →
          ∃ t l, exec (.harnessSet p) s = .next t ∧ Answered s t p 0 0 (BitVec.ofNat 64 l.length) 0 [] { s.coach with staged := l } ∧
            ∀ e, e ∈ l ↔ e = (o, x) ∨ e ∈ s.coach.staged ∧ e.1 ≠ o) ∧
        (harnessMask o = 0 → ∃ t, exec (.harnessSet p) s = .next t ∧ Answered s t p 2 0x10010 0 0 [] s.coach)) ∧
      (packetForm p 0x23 8 → harnessMask o ≠ 0 → pNum p 19 1 = 0 → pNum p 21 3 = 0 →
        (pNum p 20 1 = 0 → ∃ t, exec (.harnessRead p) s = .next t ∧ Answered s t p 0 0 (s.rd o) 0 [] s.coach) ∧
        (pNum p 20 1 = 1 → s.coach.staged = [(o, v)] →
          ∃ t, exec (.harnessRead p) s = .next t ∧
            Answered s t p 0 0 ((s.rd o &&& ~~~harnessMask o) ||| (v &&& harnessMask o)) 0 [] s.coach)) ∧
      (packetForm p 0x22 0 → ∃ t, exec (.harnessDiscard p) s = .next t ∧ Answered s t p 0 0 0 0 [] { s.coach with staged := [] }) ∧
      (packetForm p 0x21 0 →
        ∃ t, exec (.harnessCommit p) s = .next t ∧ Took s t [] { s.coach with commit := some ⟨seq, false, none, none⟩ }) ∧
      (s.feature featTimetable = true →
        (packetForm p 0x30 16 → pNum p 16 8 % 64 = 0 → pNum p 16 8 < 0x18000000 → pNum p 24 1 ≤ 1 → pNum p 25 7 = 0 →
          s.b HN_TT_STATE 16 = false →
          ∃ t, exec (.ttAdmit p) s = .next t ∧
            Took s t [] { s.coach with admitting := some (seq, pNum p 16 8, decide (pNum p 24 1 = 1)) }) ∧
        (packetForm p 0x32 0 →
          let r := s.f HN_CTRL 15 12
          let n := s.leg.toNat + 1
          (s.tt = 1 → ∃ t, exec (.stopCmd p) s = .next t ∧ t.tt = 2 ∧ t.f HN_TT_STATE 11 8 = r ∧ t.seq.runFirst = n ∧
            t.coach.stop = some seq ∧ t.coach.receipts = [⟨0x32, seq, 1, false, false, 0, BitVec.ofNat 64 n, BitVec.ofNat 64 (n + r)⟩] ∧
            t.yard = s.yard ∧ t.tensor = s.tensor ∧ t.leg = s.leg) ∧
          (s.tt ≠ 1 → ∃ t, exec (.stopCmd p) s = .next t ∧ Answered s t p 0 (BitVec.ofNat 64 s.tt) 0 0 [] s.coach)))) ∧
    (s.live = true → s.coach.commit = some ⟨q, false, none, none⟩ →
      (checkHarness s s.stagedView = none ∨ s.coach.staged = [] →
        exec .harnessCommitCheckDone s = .next { s with coach := { s.coach with commit := some ⟨q, false, some s.coach.staged, none⟩ } }) ∧
      (∀ code reg, checkHarness s s.stagedView = some (code, reg) → s.coach.staged ≠ [] → exec .harnessCommitCheckDone s =
        .next { s with coach := { s.coach with commit := none, receipts := s.coach.receipts ++
          [⟨0x21, q, 2, true, false, BitVec.ofNat 64 (code + reg * 2 ^ 8), 0, 0⟩] } }) ∧
      (s.coach.staged = [(HN_PERIOD, v)] → v.toNat < 175000 → exec .harnessCommitCheckDone s =
        .next { s with coach := { s.coach with commit := none, receipts := s.coach.receipts ++ [⟨0x21, q, 2, true, false, 1, 0, 0⟩] } })) ∧
    (∀ off, s.live = true → s.coach.admitting = some (q, off, false) →
      (∀ code kind i, s.admits off = some (code, kind, i) → exec .ttAdmitDone s =
        .next { s with coach := { s.coach with admitting := none, receipts := s.coach.receipts ++
          [⟨0x30, q, 7, true, false, BitVec.ofNat 64 (code + kind * 2 ^ 8 + i * 2 ^ 16), 0, 0⟩] } }) ∧
      (s.yard.bad = [] → s.yard.mem.num off 4 = 0 → ∃ j, s.admits off = some (2, 0xFF, j)) ∧
      (s.yard.bad = [] → s.yard.weak = [] → s.admits off = none →
        ∃ t a, exec .ttAdmitDone s = .next t ∧ t.b HN_TT_STATE 16 = true ∧ t.coach.admitting = none ∧ t.coach.adm = some a ∧
          a.void = false ∧ a.img.off = off ∧ a.img.id = s.yard.mem.num (off + 0x30) 4 ∧
          t.coach.receipts = s.coach.receipts ++ [⟨0x30, q, 0, true, false, 0, BitVec.ofNat 64 a.img.id,
            BitVec.ofNat 64 (s.yard.mem.num (off + 0x10) 8)⟩] ∧ t.yard = s.yard ∧ ∀ o, o ≠ HN_TT_STATE → t.rd o = s.rd o))

/-- R251, R254, R410 to R412, R438, R439, R446 to R451: SELF_TEST and its end, REINSTATE, the rescue of a group, fence strikes,
SYNC_DUMP and its end, and the two RESETs; a core-only reset in progress absorbs the RESET of the harness (R435, log 55). The test of a group
in service reads every word (R445). -/
def Obligations.BookingUnits : Prop :=
  ∀ (s : State) (p : Packet) (u : UnitId) (q : BitVec 16) (g : BitVec 8),
    let seq : BitVec 16 := p.extractLsb' 16 16
    let ready := s.taking ∧ s.f CM_STATE 2 0 = 3 ∧ s.coach.test = none
    (ready → packetForm p 0x40 8 → u = p.extractLsb' 128 16 → (unitDomain u).isSome = true → pNum p 20 4 = 0 →
      let n := pNum p 18 2
      ((s.unitActive u = false ∨ fld u 15 8 = 2 ∨ fld u 15 8 = 3 ∨ (s.tt = 0 ∧ s.b HN_TT_STATE 16 = false)) →
        ∃ t, exec (.selfTest p) s = .next t ∧ Took s t [] { s.coach with test := some ⟨seq, u, if n = 0 then none else some n, false⟩ }) ∧
      (s.unitActive u = true → fld u 15 8 ≠ 2 → fld u 15 8 ≠ 3 → s.tt = 4 → s.coach.adm = none →
        ∃ t, exec (.selfTest p) s = .next t ∧ Answered s t p 3 0 0 0 [] s.coach)) ∧
    (∀ d j, s.live = true → s.coach.test = some j → j.unit = u → j.waits = false → unitDomain u = some d → s.yard.bad = [] →
      let ends := fun (t : State) (fail : Nat) => t.coach.test = none ∧ t.yard = s.yard ∧
        t.rd HL_TEST = BitVec.ofNat 64 (u.toNat * 2 ^ 32 + s.leg.toNat % 2 ^ 31 * 2 + fail) ∧
        t.coach.receipts.getLast? = some ⟨0x40, j.seq, 0, true, false, 0, BitVec.ofNat 64 fail, s.leg.setWidth 64⟩
      (∀ w, s.yard.weak = [w] → fld u 15 8 = 2 → s.unitActive u = true → groupOf w = fld u 7 0 → s.f HL_THRESH 23 12 = 0 →
        ∃ t, exec (.unitTestComplete u true) s = .next t ∧ ends t 0 ∧
          (∀ o ∈ [YD_ECC_CE, HL_ERR_GRP (fld u 7 0)], t.f o 47 0 = min (s.f o 47 0 + 1) (2 ^ 48 - 1))) ∧
      (s.yard.weak = [] → ∃ t, exec (.unitTestComplete u true) s = .next t ∧ ends t 0 ∧
        t.unitBit HL_PASS d = (s.unitBit HL_PASS d || s.unitBit HL_FENCE d) ∧ t.unitBit HL_DEAD d = s.unitBit HL_DEAD d) ∧
      (s.unitActive u = false →
        ∃ t, exec (.unitTestComplete u false) s = .next t ∧ ends t 1 ∧ t.unitBit HL_DEAD d = true ∧
          (s.unitBit HL_DEAD d = false → t.unitBit HL_FENCE d = true))) ∧
    (∀ d, ready → packetForm p 0x41 8 → u = p.extractLsb' 128 16 → unitDomain u = some d → pNum p 18 6 = 0 →
      (s.unitBit HL_FENCE d = true → s.unitBit HL_PASS d = true →
        ∃ t, exec (.reinstate p) s = .next t ∧ t.unitBit HL_FENCE d = false ∧ t.unitBit HL_DEAD d = false ∧ t.unitBit HL_PASS d = false ∧
          t.unitBit HL_REINST d = true ∧ t.yard = s.yard ∧
          t.coach.receipts = [⟨0x8004, 0, 0, true, true, BitVec.ofNat 64 (5 + u.toNat * 2 ^ 8), s.leg.setWidth 64, 0⟩,
            ⟨0x41, seq, 0, true, false, 0, 0, 0⟩]) ∧
      (s.unitBit HL_FENCE d = true → s.unitBit HL_PASS d = false →
        ∃ t, exec (.reinstate p) s = .next t ∧ Answered s t p 9 0 0 0 [] s.coach) ∧
      (s.unitBit HL_FENCE d = false → ∃ t, exec (.reinstate p) s = .next t ∧ Answered s t p 2 0x10010 0 0 [] s.coach)) ∧
    (s.phase = .run → s.ostler.todo = [u] → fld u 15 8 = 2 → fld u 7 0 = g.toNat → s.ostler.rescued = [] → s.ostler.mute = [] →
      s.yard.bad = [] → s.yard.weak = [] →
      ∃ t, exec (.groupRescue g) s = .next t ∧ t.ostler = { s.ostler with rescued := [g.toNat] } ∧ t.yard = s.yard ∧ t.regs = s.regs) ∧
    (∀ d, s.live = true → unitDomain u = some d →
      (s.unitBit HL_FENCE d = false → exec (.fenceStrike u) s = .next s) ∧
      (s.unitBit HL_FENCE d = true → s.ostler.struck = [] → s.coach.receipts = [] →
        ∃ t, exec (.fenceStrike u) s = .next t ∧ t.f HL_FENCE_STRIKE 47 0 = min (s.f HL_FENCE_STRIKE 47 0 + 1) (2 ^ 48 - 1) ∧
          t.rd HL_STRIKE_LAST = BitVec.ofNat 64 u.toNat ∧ t.b HL_ALERT 1 = true ∧ t.ostler.struck = [u] ∧ t.yard = s.yard ∧
          t.coach.receipts = [⟨0x8004, 0, 0, true, true, BitVec.ofNat 64 (3 + u.toNat * 2 ^ 8), s.leg.setWidth 64, 0⟩])) ∧
    (s.taking → s.f CM_STATE 2 0 = 3 → s.coach.dump = none → packetForm p 0x50 16 →
      let a := pNum p 16 8
      let n := pNum p 24 8
      a % 64 = 0 → 0x25040 ≤ n → s.place a = .dram →
      ∃ t bs, exec (.syncDump p) s = .next t ∧ Took s t [] { s.coach with dump := some (seq, a, bs) } ∧ bs.length = 96 ∧
        bs.take 2 = [1, 0] ∧ ofBytes ((bs.drop 8).take 8) = s.time.toNat) ∧
    (∀ dst bs, s.live = true → s.coach.dump = some (q, dst, bs) → bs.length = 0x25040 → s.b RL_DRAG 63 = false →
      let done := fun (err : Option (BitVec 32)) (st : Byte) (detail : Word) => ∃ t D, exec (.syncDumpDone err) s = .next t ∧
        D = bs.take 4 ++ toBytes 4 (dumpValid bs) ++ bs.drop 8 ∧
        t.out = s.out ++ (List.range 2369).map (fun i => .fabWrite .uns (dst + 64 * i) ((D.drop (64 * i)).take 64)) ∧
        t.coach = { s.coach with dump := none, receipts := s.coach.receipts ++ [⟨0x50, q, st, true, false, detail, 0, 0⟩] } ∧
        t.yard = s.yard ∧ t.regs = s.regs
      done none 0 0 ∧ ∀ x : BitVec 32, done (some x) 0x0B (x.setWidth 64)) ∧
    (s.taking → s.f CM_STATE 2 0 = 3 → packetForm p 5 8 →
      (pNum p 16 8 = 1 → s.core.run ≠ .resetting →
        ∃ t, exec (.resetCoreOnly p) s = .next t ∧ t.core.run = .resetting ∧ t.core.resetSeq = some seq ∧ t.core.wait = none ∧
          t.f CM_BOOK_HEAD 31 0 = (s.f CM_BOOK_HEAD 31 0 + 1) % 2 ^ 32 ∧ t.noTensor = true ∧
          (s.noTensor = true → (∀ c < 56, (s.chan c).active = none ∧ (s.chan c).shadow = none) →
            t.coach = s.coach ∧ t.yard.mem = s.yard.mem ∧ t.yard.full = s.yard.full ∧ t.tensor = s.tensor)) ∧
      (pNum p 16 8 = 2 → s.core.run = .resetting → s.tt = 0 → s.coach.commit = none →
        ∃ t, exec (.resetHarnessSoft p) s = .next t ∧ t.core = { s.core with resetSeq := some seq } ∧ t.coach = s.coach) ∧
      (pNum p 16 8 = 2 → s.core.run ≠ .resetting → s.tt = 0 → s.coach.commit = none →
        ∃ t, exec (.resetHarnessSoft p) s = .next t ∧ Took s t [] { s.coach with commit := some ⟨seq, true, none, none⟩ }))

/-! ## Reset and every step -/

/-- R436, R440: the machine right after reset, where the spec gives the values; every table is canonical. -/
def Obligations.ResetState : Prop :=
  State.reset.canonical = true ∧ (∀ o, State.reset.rd o = resetOf o) ∧ State.reset.phase = .powerOn ∧ State.reset.leg = 0 ∧
    State.reset.time = 0 ∧ State.reset.tt = 0 ∧ (∀ a, State.reset.yard.mem.read a 1 = [0]) ∧ State.reset.yard.full = [] ∧
    (∀ i, State.reset.ctr i = 0) ∧ (∀ n, State.reset.mboxFull n = false) ∧ (∀ i < 16, State.reset.accUsed i = false) ∧
    (∀ a, State.reset.tensor.tiles.read a 1 = [0]) ∧ State.reset.core.run = .held ∧ State.reset.core.lfsr = 1 ∧ State.reset.core.l2 = [] ∧
    (∀ c < 56, State.reset.chan c = ⟨none, none, false⟩) ∧ State.reset.f CM_STATE 2 0 = 0 ∧ State.reset.pending = []

/-- Every step keeps every table of the state canonical (log 14), so that states that read the same are the same. -/
def Obligations.CanonicalKept : Prop :=
  ∀ s t : State, s.canonical = true → step s = .next t → t.canonical = true
end

