-- ==== Sys2Proof/Laws/Tables.lean ====
section
/-! SUPPORT. Laws of the sparse tables: what a key reads as after a write, and that every operation keeps the canonical form. -/

namespace Sys2Proof.Machine

variable {β : Type}

theorem look_append (d : Nat → β) (k : Nat) (a b : List (Nat × β)) :
    look d k (a ++ b) = if k ∈ a.map (·.1) then look d k a else look d k b := by
  induction a with
  | nil => simp
  | cons c t ih =>
    obtain ⟨x, v⟩ := c
    by_cases h : x = k
    · simp [look, h]
    · simp only [List.cons_append, look, if_neg h, ih, List.map_cons, List.mem_cons, Ne.symm h, false_or]

theorem look_not_mem (d : Nat → β) (k : Nat) (a : List (Nat × β)) (h : k ∉ a.map (·.1)) : look d k a = d k := by
  have := look_append d k a []
  rw [List.append_nil, if_neg h] at this
  exact this

/-- A filter by key is read through for the keys it keeps. -/
theorem look_filter (d : Nat → β) (p : Nat → Bool) (k : Nat) (m : List (Nat × β)) :
    look d k (m.filter (fun c => p c.1)) = if p k then look d k m else d k := by
  induction m with
  | nil => simp [look]
  | cons c t ih =>
    obtain ⟨x, v⟩ := c
    by_cases hp : p x
    · rw [List.filter_cons_of_pos (by simpa using hp)]
      by_cases hx : x = k
      · subst hx; simp [look, hp]
      · simp [look, hx, ih]
    · rw [List.filter_cons_of_neg (by simpa using hp)]
      by_cases hx : x = k
      · subst hx; simp [hp, ih]
      · simp [look, hx, ih]

variable [DecidableEq β]

theorem mem_cells {d : Nat → β} {lo : Nat} {vs : List β} {c : Nat × β} (h : c ∈ cells d lo vs) :
    lo ≤ c.1 ∧ c.1 < lo + vs.length ∧ c.2 ≠ d c.1 := by
  induction vs generalizing lo with
  | nil => simp [cells] at h
  | cons v t ih =>
    simp only [cells] at h
    split at h
    · obtain ⟨h1, h2, h3⟩ := ih h
      exact ⟨by omega, by simp only [List.length_cons]; omega, h3⟩
    · rename_i hv
      rcases List.mem_cons.1 h with rfl | h
      · exact ⟨le_refl _, by simp, hv⟩
      · obtain ⟨h1, h2, h3⟩ := ih h
        exact ⟨by omega, by simp only [List.length_cons]; omega, h3⟩

theorem look_cells (d : Nat → β) (k lo : Nat) (vs : List β) :
    look d k (cells d lo vs) = if h : lo ≤ k ∧ k < lo + vs.length then vs[k - lo]'(by omega) else d k := by
  induction vs generalizing lo with
  | nil => simp [cells, look]
  | cons v t ih =>
    have rest : look d k (cells d (lo + 1) t) =
        if h : lo + 1 ≤ k ∧ k < lo + 1 + t.length then t[k - (lo + 1)]'(by omega) else d k := ih (lo + 1)
    by_cases hk : k = lo
    · subst hk
      simp only [cells]
      split
      · rename_i hv; rw [rest]; simp [hv]
      · simp [look]
    · have he : look d k (cells d lo (v :: t)) = look d k (cells d (lo + 1) t) := by
        simp only [cells]
        split
        · rfl
        · simp [look, Ne.symm hk]
      rw [he, rest]
      by_cases h : lo + 1 ≤ k ∧ k < lo + 1 + t.length
      · rw [dif_pos h, dif_pos (by simp only [List.length_cons]; omega)]
        rw [List.getElem_cons]
        simp only [show ¬ k - lo = 0 by omega, dite_false]
        congr 1
      · rw [dif_neg h, dif_neg (by simp only [List.length_cons]; omega)]

/-- What a table reads after a run of keys is written. -/
theorem look_splice (d : Nat → β) (k lo : Nat) (vs : List β) (m : List (Nat × β)) :
    look d k (splice d lo vs m) = if h : lo ≤ k ∧ k < lo + vs.length then vs[k - lo]'(by omega) else look d k m := by
  have hb := look_filter d (fun a => decide (a < lo)) k m
  have ha := look_filter d (fun a => decide (lo + vs.length ≤ a)) k m
  unfold splice
  rw [look_append, look_append, hb, ha, look_cells]
  by_cases h : lo ≤ k ∧ k < lo + vs.length
  · have hn : k ∉ (m.filter (fun c => decide (c.1 < lo)) ++ cells d lo vs).map (·.1) ∨
        k ∈ (m.filter (fun c => decide (c.1 < lo)) ++ cells d lo vs).map (·.1) := (em _).symm
    have h1 : k ∉ (m.filter (fun c => decide (c.1 < lo))).map (·.1) := by
      simp only [List.mem_map, List.mem_filter, decide_eq_true_eq]; rintro ⟨c, ⟨_, hc⟩, rfl⟩; omega
    rw [if_neg h1]
    rcases hn with hn | hn
    · rw [if_neg hn]
      have : look d k (cells d lo vs) = d k := look_not_mem _ _ _ (fun hc => hn (by simp only [List.map_append, List.mem_append]; exact .inr hc))
      rw [look_cells, dif_pos h] at this
      rw [dif_pos h, this]; simp [show ¬ lo + vs.length ≤ k by omega]
    · rw [if_pos hn, dif_pos h, dif_pos h]
  · rw [dif_neg h, dif_neg h]
    have h2 : k ∉ (cells d lo vs).map (·.1) := by
      simp only [List.mem_map]; rintro ⟨c, hc, rfl⟩; have := mem_cells hc; omega
    by_cases hk : k < lo
    · simp only [hk, decide_true, if_true, List.map_append, List.mem_append, h2, or_false,
        show ¬ lo + vs.length ≤ k by omega, decide_false, Bool.false_eq_true, if_false]
      split
      · rfl
      · rename_i hn
        have := look_filter d (fun a => decide (a < lo)) k m
        rw [look_not_mem _ _ _ hn] at this
        simpa [hk] using this
    · have h1 : k ∉ (m.filter (fun c => decide (c.1 < lo))).map (·.1) := by
        simp only [List.mem_map, List.mem_filter, decide_eq_true_eq]; rintro ⟨c, ⟨_, hc⟩, rfl⟩; omega
      rw [if_neg (by simp only [List.map_append, List.mem_append]; exact fun hx => hx.elim h1 h2)]
      simp [show lo + vs.length ≤ k by omega]

/-- What a table reads after one key is written. -/
@[simp] theorem look_put (d : Nat → β) (k j : Nat) (v : β) (m : List (Nat × β)) :
    look d j (put d k v m) = if j = k then v else look d j m := by
  rw [put, look_splice]
  by_cases h : j = k
  · subst h; simp
  · rw [dif_neg (by simp only [List.length_singleton]; omega), if_neg h]

omit [DecidableEq β] in
/-- A slice is the list of what its keys read. -/
theorem slice_eq (d : Nat → β) (lo n : Nat) (m : List (Nat × β)) :
    slice d lo n m = (List.range n).map (fun i => look d (lo + i) m) := by
  unfold slice
  apply List.map_congr_left
  intro i hi
  have hi' := List.mem_range.1 hi
  have := look_filter d (fun a => decide (lo ≤ a) && decide (a < lo + n)) (lo + i) m
  rw [this]; simp [show lo + i < lo + n by omega]

omit [DecidableEq β] in
@[simp] theorem slice_length (d : Nat → β) (lo n : Nat) (m : List (Nat × β)) : (slice d lo n m).length = n := by
  simp [slice]

/-! ## The canonical form -/

theorem wf_iff (d : Nat → β) (m : List (Nat × β)) :
    Table.wf d m = true ↔ m.Pairwise (fun a b => a.1 < b.1) ∧ ∀ c ∈ m, c.2 ≠ d c.1 := by
  induction m with
  | nil => simp [Table.wf]
  | cons c t ih =>
    obtain ⟨a, v⟩ := c
    cases t with
    | nil => simp [Table.wf]
    | cons e r =>
      obtain ⟨b, w⟩ := e
      simp only [Table.wf, Bool.and_eq_true, decide_eq_true_eq, ih, List.pairwise_cons, List.mem_cons, forall_eq_or_imp]
      constructor
      · rintro ⟨⟨h1, h2⟩, ⟨h3, h4⟩, h5, h6⟩
        exact ⟨⟨⟨h2, fun x hx => lt_trans h2 (h3 x hx)⟩, h3, h4⟩, h1, h5, h6⟩
      · rintro ⟨⟨⟨h2, _⟩, h3, h4⟩, h1, h5, h6⟩
        exact ⟨⟨h1, h2⟩, ⟨h3, h4⟩, h5, h6⟩

theorem wf_filter (d : Nat → β) (p : Nat × β → Bool) (m : List (Nat × β)) (h : Table.wf d m = true) :
    Table.wf d (m.filter p) = true := by
  rw [wf_iff] at h ⊢
  exact ⟨h.1.filter _, fun c hc => h.2 c (List.mem_filter.1 hc).1⟩

theorem cells_pairwise (d : Nat → β) (lo : Nat) (vs : List β) : (cells d lo vs).Pairwise (fun a b => a.1 < b.1) := by
  induction vs generalizing lo with
  | nil => simp [cells]
  | cons v t ih =>
    simp only [cells]
    split
    · exact ih _
    · exact List.pairwise_cons.2 ⟨fun c hc => by have := mem_cells hc; omega, ih _⟩

theorem splice_wf (d : Nat → β) (lo : Nat) (vs : List β) (m : List (Nat × β)) (h : Table.wf d m = true) :
    Table.wf d (splice d lo vs m) = true := by
  rw [wf_iff] at h ⊢
  unfold splice
  refine ⟨?_, ?_⟩
  · rw [List.pairwise_append, List.pairwise_append]
    refine ⟨⟨h.1.filter _, cells_pairwise d lo vs, ?_⟩, h.1.filter _, ?_⟩
    · intro a ha b hb
      have := mem_cells hb
      have ha' := (List.mem_filter.1 ha).2
      simp only [decide_eq_true_eq] at ha'
      omega
    · intro a ha b hb
      have hb' := (List.mem_filter.1 hb).2
      simp only [decide_eq_true_eq] at hb'
      rcases List.mem_append.1 ha with ha | ha
      · have ha' := (List.mem_filter.1 ha).2
        simp only [decide_eq_true_eq] at ha'
        omega
      · have := mem_cells ha; omega
  · intro c hc
    rcases List.mem_append.1 hc with hc | hc
    · rcases List.mem_append.1 hc with hc | hc
      · exact h.2 c (List.mem_filter.1 hc).1
      · exact (mem_cells hc).2.2
    · exact h.2 c (List.mem_filter.1 hc).1

theorem put_wf (d : Nat → β) (k : Nat) (v : β) (m : List (Nat × β)) (h : Table.wf d m = true) :
    Table.wf d (put d k v m) = true := splice_wf d k [v] m h

/-! ## Byte memories -/

theorem Mem.write_wf (m : Mem) (a : Nat) (bs : List Byte) (h : m.wf = true) : (m.write a bs).wf = true :=
  splice_wf _ _ _ _ h

theorem Mem.clear_wf (m : Mem) (lo n : Nat) (h : m.wf = true) : (m.clear lo n).wf = true := wf_filter _ _ _ h

/-- Every byte outside a written run reads as before. -/
theorem Mem.look_write_other (m : Mem) (a k : Nat) (bs : List Byte) (h : ¬ (a ≤ k ∧ k < a + bs.length)) :
    look zeroByte k (m.write a bs) = look zeroByte k m := by
  rw [Mem.write, look_splice, dif_neg h]

/-- A written run reads back. -/
theorem Mem.read_write_same (m : Mem) (a : Nat) (bs : List Byte) : (m.write a bs).read a bs.length = bs := by
  rw [Mem.read, slice_eq]
  apply List.ext_getElem
  · simp
  · intro i h1 h2
    simp only [List.getElem_map, List.getElem_range, Mem.write, look_splice]
    rw [dif_pos (by simp at h1 ⊢; omega)]
    simp

/-- A run that a write does not touch reads as before. -/
theorem Mem.read_write_other (m : Mem) (a b n : Nat) (bs : List Byte) (h : b + n ≤ a ∨ a + bs.length ≤ b) :
    (m.write a bs).read b n = m.read b n := by
  rw [Mem.read, Mem.read, slice_eq, slice_eq]
  apply List.map_congr_left
  intro i hi
  have hi' := List.mem_range.1 hi
  exact Mem.look_write_other m a (b + i) bs (by omega)

theorem Mem.look_clear (m : Mem) (lo n k : Nat) :
    look zeroByte k (m.clear lo n) = if k < lo ∨ lo + n ≤ k then look zeroByte k m else 0 := by
  have := look_filter zeroByte (fun a => decide (a < lo) || decide (lo + n ≤ a)) k m
  rw [Mem.clear, this]; simp [zeroByte]

end Sys2Proof.Machine
end

