-- ==== Sys2Proof/Laws/Fields.lean ====
section
/-! SUPPORT. Laws of bit fields: what a field or a bit of a word reads after a field of it is replaced. -/

namespace Sys2Proof.Machine

theorem nat_setFld (w lo k v : Nat) :
    w - (w >>> lo % 2 ^ k) * 2 ^ lo + (v % 2 ^ k) * 2 ^ lo =
      2 ^ lo * (2 ^ k * (w >>> (lo + k)) + v % 2 ^ k) + w % 2 ^ lo := by
  have h1 : w = 2 ^ lo * (w >>> lo) + w % 2 ^ lo := by
    rw [Nat.shiftRight_eq_div_pow]; exact (Nat.div_add_mod w (2 ^ lo)).symm
  have h2 : w >>> lo = 2 ^ k * (w >>> (lo + k)) + (w >>> lo) % 2 ^ k := by
    rw [Nat.shiftRight_add, Nat.shiftRight_eq_div_pow (w >>> lo)]; exact (Nat.div_add_mod _ _).symm
  generalize w >>> (lo + k) = a at *
  generalize w % 2 ^ lo = b at *
  generalize (w >>> lo) % 2 ^ k = f at *
  generalize v % 2 ^ k = g at *
  rw [h2] at h1
  subst h1
  generalize 2 ^ lo = L
  generalize 2 ^ k = K
  have : L * (K * a + f) + b - f * L = L * (K * a) + b := by
    rw [Nat.mul_add, Nat.mul_comm f L]; omega
  rw [this]; ring

/-- The bits of a word with a field replaced. -/
theorem getLsbD_setFld {n : Nat} (w : BitVec n) (hi lo v i : Nat) (hl : lo ≤ hi) (hi' : i < n) :
    (setFld w hi lo v).getLsbD i = if lo ≤ i ∧ i ≤ hi then v.testBit (i - lo) else w.getLsbD i := by
  obtain ⟨k, hk⟩ : ∃ k, hi + 1 - lo = k := ⟨_, rfl⟩
  simp only [setFld, fld, hk, BitVec.getLsbD_ofNat, hi', decide_true, Bool.true_and]
  rw [nat_setFld, Nat.testBit_two_pow_mul_add _ (Nat.mod_lt _ (Nat.two_pow_pos _)), BitVec.getLsbD]
  by_cases h1 : i < lo
  · simp [h1, Nat.testBit_mod_two_pow, show ¬ lo ≤ i by omega]
  · rw [if_neg h1, Nat.testBit_two_pow_mul_add _ (Nat.mod_lt _ (Nat.two_pow_pos _))]
    by_cases h2 : i - lo < k
    · simp [h2, Nat.testBit_mod_two_pow, show lo ≤ i ∧ i ≤ hi by omega]
    · rw [if_neg h2, if_neg (by omega), Nat.testBit_shiftRight]
      congr 1; omega

theorem testBit_fld {n : Nat} (w : BitVec n) (hi lo j : Nat) :
    (fld w hi lo).testBit j = (decide (j < hi + 1 - lo) && w.getLsbD (lo + j)) := by
  rw [fld, Nat.testBit_mod_two_pow, Nat.testBit_shiftRight]; rfl

/-- A field reads what it was set to. -/
theorem fld_setFld_same {n : Nat} (w : BitVec n) (hi lo v : Nat) (hl : lo ≤ hi) (hn : hi < n) :
    fld (setFld w hi lo v) hi lo = v % 2 ^ (hi + 1 - lo) := by
  apply Nat.eq_of_testBit_eq
  intro j
  rw [testBit_fld, Nat.testBit_mod_two_pow]
  by_cases h : j < hi + 1 - lo
  · rw [getLsbD_setFld _ _ _ _ _ hl (by omega), if_pos (by omega)]
    simp [h]
  · simp [h]

/-- A field apart from the one that is set reads as before. -/
theorem fld_setFld_other {n : Nat} (w : BitVec n) (hi lo v a b : Nat) (hl : lo ≤ hi) (ha : a < n)
    (hd : a < lo ∨ hi < b) : fld (setFld w hi lo v) a b = fld w a b := by
  apply Nat.eq_of_testBit_eq
  intro j
  rw [testBit_fld, testBit_fld]
  by_cases h : j < a + 1 - b
  · rw [getLsbD_setFld _ _ _ _ _ hl (by omega), if_neg (by omega)]
  · simp [h]

theorem bit_setFld_other {n : Nat} (w : BitVec n) (hi lo v i : Nat) (hl : lo ≤ hi) (hn : i < n)
    (hd : i < lo ∨ hi < i) : bit (setFld w hi lo v) i = bit w i := by
  rw [bit, getLsbD_setFld _ _ _ _ _ hl hn, if_neg (by omega)]; rfl

theorem bit_setBit_same {n : Nat} (w : BitVec n) (i : Nat) (b : Bool) (hn : i < n) : bit (setBit w i b) i = b := by
  rw [bit, setBit, getLsbD_setFld _ _ _ _ _ (le_refl _) hn]
  cases b <;> simp

theorem bit_setBit_other {n : Nat} (w : BitVec n) (i j : Nat) (b : Bool) (hn : j < n) (h : j ≠ i) :
    bit (setBit w i b) j = bit w j := bit_setFld_other _ _ _ _ _ (le_refl _) hn (by omega)

theorem fld_setBit_other {n : Nat} (w : BitVec n) (i hi lo : Nat) (b : Bool) (hn : hi < n) (h : hi < i ∨ i < lo) :
    fld (setBit w i b) hi lo = fld w hi lo := fld_setFld_other _ _ _ _ _ _ (le_refl _) hn (by omega)

theorem fld_lt {n : Nat} (w : BitVec n) (hi lo : Nat) : fld w hi lo < 2 ^ (hi + 1 - lo) := Nat.mod_lt _ (Nat.two_pow_pos _)

end Sys2Proof.Machine
end

