-- ==== Sys2Proof/Laws/State.lean ====
section
/-! SUPPORT. Laws of the state: what each field reads after each of the basic updates, and what a register reads after a write. -/

namespace Sys2Proof.Machine

variable (s : State)

/-! ## wr -/

@[simp] theorem wr_phase (o : Nat) (v : Word) : (s.wr o v).phase = s.phase := rfl
@[simp] theorem wr_time (o : Nat) (v : Word) : (s.wr o v).time = s.time := rfl
@[simp] theorem wr_cycle (o : Nat) (v : Word) : (s.wr o v).cycle = s.cycle := rfl
@[simp] theorem wr_leg (o : Nat) (v : Word) : (s.wr o v).leg = s.leg := rfl
@[simp] theorem wr_legOpen (o : Nat) (v : Word) : (s.wr o v).legOpen = s.legOpen := rfl
@[simp] theorem wr_opening (o : Nat) (v : Word) : (s.wr o v).opening = s.opening := rfl
@[simp] theorem wr_pins (o : Nat) (v : Word) : (s.wr o v).pins = s.pins := rfl
@[simp] theorem wr_hw (o : Nat) (v : Word) : (s.wr o v).hw = s.hw := rfl
@[simp] theorem wr_yard (o : Nat) (v : Word) : (s.wr o v).yard = s.yard := rfl
@[simp] theorem wr_tensor (o : Nat) (v : Word) : (s.wr o v).tensor = s.tensor := rfl
@[simp] theorem wr_seq (o : Nat) (v : Word) : (s.wr o v).seq = s.seq := rfl
@[simp] theorem wr_mail (o : Nat) (v : Word) : (s.wr o v).mail = s.mail := rfl
@[simp] theorem wr_relay (o : Nat) (v : Word) : (s.wr o v).relay = s.relay := rfl
@[simp] theorem wr_wb (o : Nat) (v : Word) : (s.wr o v).wb = s.wb := rfl
@[simp] theorem wr_core (o : Nat) (v : Word) : (s.wr o v).core = s.core := rfl
@[simp] theorem wr_coach (o : Nat) (v : Word) : (s.wr o v).coach = s.coach := rfl
@[simp] theorem wr_ostler (o : Nat) (v : Word) : (s.wr o v).ostler = s.ostler := rfl
@[simp] theorem wr_power (o : Nat) (v : Word) : (s.wr o v).power = s.power := rfl
@[simp] theorem wr_out (o : Nat) (v : Word) : (s.wr o v).out = s.out := rfl
@[simp] theorem wr_agenda (o : Nat) (v : Word) : (s.wr o v).agenda = s.agenda := rfl
@[simp] theorem wr_fresh (o : Nat) (v : Word) : (s.wr o v).fresh = s.fresh := rfl
@[simp] theorem wr_pending (o : Nat) (v : Word) : (s.wr o v).pending = s.pending := rfl

/-! ## setF -/

@[simp] theorem setF_phase (o hi lo v : Nat) : (s.setF o hi lo v).phase = s.phase := rfl
@[simp] theorem setF_time (o hi lo v : Nat) : (s.setF o hi lo v).time = s.time := rfl
@[simp] theorem setF_cycle (o hi lo v : Nat) : (s.setF o hi lo v).cycle = s.cycle := rfl
@[simp] theorem setF_leg (o hi lo v : Nat) : (s.setF o hi lo v).leg = s.leg := rfl
@[simp] theorem setF_legOpen (o hi lo v : Nat) : (s.setF o hi lo v).legOpen = s.legOpen := rfl
@[simp] theorem setF_opening (o hi lo v : Nat) : (s.setF o hi lo v).opening = s.opening := rfl
@[simp] theorem setF_pins (o hi lo v : Nat) : (s.setF o hi lo v).pins = s.pins := rfl
@[simp] theorem setF_hw (o hi lo v : Nat) : (s.setF o hi lo v).hw = s.hw := rfl
@[simp] theorem setF_yard (o hi lo v : Nat) : (s.setF o hi lo v).yard = s.yard := rfl
@[simp] theorem setF_tensor (o hi lo v : Nat) : (s.setF o hi lo v).tensor = s.tensor := rfl
@[simp] theorem setF_seq (o hi lo v : Nat) : (s.setF o hi lo v).seq = s.seq := rfl
@[simp] theorem setF_mail (o hi lo v : Nat) : (s.setF o hi lo v).mail = s.mail := rfl
@[simp] theorem setF_relay (o hi lo v : Nat) : (s.setF o hi lo v).relay = s.relay := rfl
@[simp] theorem setF_wb (o hi lo v : Nat) : (s.setF o hi lo v).wb = s.wb := rfl
@[simp] theorem setF_core (o hi lo v : Nat) : (s.setF o hi lo v).core = s.core := rfl
@[simp] theorem setF_coach (o hi lo v : Nat) : (s.setF o hi lo v).coach = s.coach := rfl
@[simp] theorem setF_ostler (o hi lo v : Nat) : (s.setF o hi lo v).ostler = s.ostler := rfl
@[simp] theorem setF_power (o hi lo v : Nat) : (s.setF o hi lo v).power = s.power := rfl
@[simp] theorem setF_out (o hi lo v : Nat) : (s.setF o hi lo v).out = s.out := rfl
@[simp] theorem setF_agenda (o hi lo v : Nat) : (s.setF o hi lo v).agenda = s.agenda := rfl
@[simp] theorem setF_fresh (o hi lo v : Nat) : (s.setF o hi lo v).fresh = s.fresh := rfl
@[simp] theorem setF_pending (o hi lo v : Nat) : (s.setF o hi lo v).pending = s.pending := rfl

/-! ## setB -/

@[simp] theorem setB_phase (o i : Nat) (v : Bool) : (s.setB o i v).phase = s.phase := rfl
@[simp] theorem setB_time (o i : Nat) (v : Bool) : (s.setB o i v).time = s.time := rfl
@[simp] theorem setB_cycle (o i : Nat) (v : Bool) : (s.setB o i v).cycle = s.cycle := rfl
@[simp] theorem setB_leg (o i : Nat) (v : Bool) : (s.setB o i v).leg = s.leg := rfl
@[simp] theorem setB_legOpen (o i : Nat) (v : Bool) : (s.setB o i v).legOpen = s.legOpen := rfl
@[simp] theorem setB_opening (o i : Nat) (v : Bool) : (s.setB o i v).opening = s.opening := rfl
@[simp] theorem setB_pins (o i : Nat) (v : Bool) : (s.setB o i v).pins = s.pins := rfl
@[simp] theorem setB_yard (o i : Nat) (v : Bool) : (s.setB o i v).yard = s.yard := rfl
@[simp] theorem setB_tensor (o i : Nat) (v : Bool) : (s.setB o i v).tensor = s.tensor := rfl
@[simp] theorem setB_seq (o i : Nat) (v : Bool) : (s.setB o i v).seq = s.seq := rfl
@[simp] theorem setB_mail (o i : Nat) (v : Bool) : (s.setB o i v).mail = s.mail := rfl
@[simp] theorem setB_relay (o i : Nat) (v : Bool) : (s.setB o i v).relay = s.relay := rfl
@[simp] theorem setB_wb (o i : Nat) (v : Bool) : (s.setB o i v).wb = s.wb := rfl
@[simp] theorem setB_core (o i : Nat) (v : Bool) : (s.setB o i v).core = s.core := rfl
@[simp] theorem setB_coach (o i : Nat) (v : Bool) : (s.setB o i v).coach = s.coach := rfl
@[simp] theorem setB_ostler (o i : Nat) (v : Bool) : (s.setB o i v).ostler = s.ostler := rfl
@[simp] theorem setB_power (o i : Nat) (v : Bool) : (s.setB o i v).power = s.power := rfl
@[simp] theorem setB_out (o i : Nat) (v : Bool) : (s.setB o i v).out = s.out := rfl
@[simp] theorem setB_agenda (o i : Nat) (v : Bool) : (s.setB o i v).agenda = s.agenda := rfl
@[simp] theorem setB_fresh (o i : Nat) (v : Bool) : (s.setB o i v).fresh = s.fresh := rfl
@[simp] theorem setB_pending (o i : Nat) (v : Bool) : (s.setB o i v).pending = s.pending := rfl

/-! ## orBits -/

@[simp] theorem orBits_phase (o : Nat) (m : Word) : (s.orBits o m).phase = s.phase := rfl
@[simp] theorem orBits_time (o : Nat) (m : Word) : (s.orBits o m).time = s.time := rfl
@[simp] theorem orBits_cycle (o : Nat) (m : Word) : (s.orBits o m).cycle = s.cycle := rfl
@[simp] theorem orBits_leg (o : Nat) (m : Word) : (s.orBits o m).leg = s.leg := rfl
@[simp] theorem orBits_legOpen (o : Nat) (m : Word) : (s.orBits o m).legOpen = s.legOpen := rfl
@[simp] theorem orBits_opening (o : Nat) (m : Word) : (s.orBits o m).opening = s.opening := rfl
@[simp] theorem orBits_pins (o : Nat) (m : Word) : (s.orBits o m).pins = s.pins := rfl
@[simp] theorem orBits_yard (o : Nat) (m : Word) : (s.orBits o m).yard = s.yard := rfl
@[simp] theorem orBits_tensor (o : Nat) (m : Word) : (s.orBits o m).tensor = s.tensor := rfl
@[simp] theorem orBits_seq (o : Nat) (m : Word) : (s.orBits o m).seq = s.seq := rfl
@[simp] theorem orBits_mail (o : Nat) (m : Word) : (s.orBits o m).mail = s.mail := rfl
@[simp] theorem orBits_relay (o : Nat) (m : Word) : (s.orBits o m).relay = s.relay := rfl
@[simp] theorem orBits_wb (o : Nat) (m : Word) : (s.orBits o m).wb = s.wb := rfl
@[simp] theorem orBits_core (o : Nat) (m : Word) : (s.orBits o m).core = s.core := rfl
@[simp] theorem orBits_coach (o : Nat) (m : Word) : (s.orBits o m).coach = s.coach := rfl
@[simp] theorem orBits_ostler (o : Nat) (m : Word) : (s.orBits o m).ostler = s.ostler := rfl
@[simp] theorem orBits_power (o : Nat) (m : Word) : (s.orBits o m).power = s.power := rfl
@[simp] theorem orBits_out (o : Nat) (m : Word) : (s.orBits o m).out = s.out := rfl
@[simp] theorem orBits_agenda (o : Nat) (m : Word) : (s.orBits o m).agenda = s.agenda := rfl
@[simp] theorem orBits_fresh (o : Nat) (m : Word) : (s.orBits o m).fresh = s.fresh := rfl
@[simp] theorem orBits_pending (o : Nat) (m : Word) : (s.orBits o m).pending = s.pending := rfl

/-! ## send -/

@[simp] theorem send_phase (m : OutMsg) : (s.send m).phase = s.phase := rfl
@[simp] theorem send_time (m : OutMsg) : (s.send m).time = s.time := rfl
@[simp] theorem send_cycle (m : OutMsg) : (s.send m).cycle = s.cycle := rfl
@[simp] theorem send_leg (m : OutMsg) : (s.send m).leg = s.leg := rfl
@[simp] theorem send_legOpen (m : OutMsg) : (s.send m).legOpen = s.legOpen := rfl
@[simp] theorem send_opening (m : OutMsg) : (s.send m).opening = s.opening := rfl
@[simp] theorem send_pins (m : OutMsg) : (s.send m).pins = s.pins := rfl
@[simp] theorem send_hw (m : OutMsg) : (s.send m).hw = s.hw := rfl
@[simp] theorem send_regs (m : OutMsg) : (s.send m).regs = s.regs := rfl
@[simp] theorem send_yard (m : OutMsg) : (s.send m).yard = s.yard := rfl
@[simp] theorem send_tensor (m : OutMsg) : (s.send m).tensor = s.tensor := rfl
@[simp] theorem send_seq (m : OutMsg) : (s.send m).seq = s.seq := rfl
@[simp] theorem send_mail (m : OutMsg) : (s.send m).mail = s.mail := rfl
@[simp] theorem send_relay (m : OutMsg) : (s.send m).relay = s.relay := rfl
@[simp] theorem send_wb (m : OutMsg) : (s.send m).wb = s.wb := rfl
@[simp] theorem send_core (m : OutMsg) : (s.send m).core = s.core := rfl
@[simp] theorem send_coach (m : OutMsg) : (s.send m).coach = s.coach := rfl
@[simp] theorem send_ostler (m : OutMsg) : (s.send m).ostler = s.ostler := rfl
@[simp] theorem send_power (m : OutMsg) : (s.send m).power = s.power := rfl
@[simp] theorem send_agenda (m : OutMsg) : (s.send m).agenda = s.agenda := rfl
@[simp] theorem send_fresh (m : OutMsg) : (s.send m).fresh = s.fresh := rfl
@[simp] theorem send_pending (m : OutMsg) : (s.send m).pending = s.pending := rfl

/-! ## later -/

@[simp] theorem later_phase (d : Nat) (i : Instr) : (s.later d i).phase = s.phase := rfl
@[simp] theorem later_time (d : Nat) (i : Instr) : (s.later d i).time = s.time := rfl
@[simp] theorem later_cycle (d : Nat) (i : Instr) : (s.later d i).cycle = s.cycle := rfl
@[simp] theorem later_leg (d : Nat) (i : Instr) : (s.later d i).leg = s.leg := rfl
@[simp] theorem later_legOpen (d : Nat) (i : Instr) : (s.later d i).legOpen = s.legOpen := rfl
@[simp] theorem later_opening (d : Nat) (i : Instr) : (s.later d i).opening = s.opening := rfl
@[simp] theorem later_pins (d : Nat) (i : Instr) : (s.later d i).pins = s.pins := rfl
@[simp] theorem later_hw (d : Nat) (i : Instr) : (s.later d i).hw = s.hw := rfl
@[simp] theorem later_regs (d : Nat) (i : Instr) : (s.later d i).regs = s.regs := rfl
@[simp] theorem later_yard (d : Nat) (i : Instr) : (s.later d i).yard = s.yard := rfl
@[simp] theorem later_tensor (d : Nat) (i : Instr) : (s.later d i).tensor = s.tensor := rfl
@[simp] theorem later_seq (d : Nat) (i : Instr) : (s.later d i).seq = s.seq := rfl
@[simp] theorem later_mail (d : Nat) (i : Instr) : (s.later d i).mail = s.mail := rfl
@[simp] theorem later_relay (d : Nat) (i : Instr) : (s.later d i).relay = s.relay := rfl
@[simp] theorem later_wb (d : Nat) (i : Instr) : (s.later d i).wb = s.wb := rfl
@[simp] theorem later_core (d : Nat) (i : Instr) : (s.later d i).core = s.core := rfl
@[simp] theorem later_coach (d : Nat) (i : Instr) : (s.later d i).coach = s.coach := rfl
@[simp] theorem later_ostler (d : Nat) (i : Instr) : (s.later d i).ostler = s.ostler := rfl
@[simp] theorem later_power (d : Nat) (i : Instr) : (s.later d i).power = s.power := rfl
@[simp] theorem later_out (d : Nat) (i : Instr) : (s.later d i).out = s.out := rfl
@[simp] theorem later_fresh (d : Nat) (i : Instr) : (s.later d i).fresh = s.fresh := rfl
@[simp] theorem later_pending (d : Nat) (i : Instr) : (s.later d i).pending = s.pending := rfl

/-! ## claim -/

@[simp] theorem claim_phase (i : Instr) : (s.claim i).phase = s.phase := rfl
@[simp] theorem claim_time (i : Instr) : (s.claim i).time = s.time := rfl
@[simp] theorem claim_cycle (i : Instr) : (s.claim i).cycle = s.cycle := rfl
@[simp] theorem claim_leg (i : Instr) : (s.claim i).leg = s.leg := rfl
@[simp] theorem claim_legOpen (i : Instr) : (s.claim i).legOpen = s.legOpen := rfl
@[simp] theorem claim_opening (i : Instr) : (s.claim i).opening = s.opening := rfl
@[simp] theorem claim_pins (i : Instr) : (s.claim i).pins = s.pins := rfl
@[simp] theorem claim_hw (i : Instr) : (s.claim i).hw = s.hw := rfl
@[simp] theorem claim_regs (i : Instr) : (s.claim i).regs = s.regs := rfl
@[simp] theorem claim_yard (i : Instr) : (s.claim i).yard = s.yard := rfl
@[simp] theorem claim_tensor (i : Instr) : (s.claim i).tensor = s.tensor := rfl
@[simp] theorem claim_seq (i : Instr) : (s.claim i).seq = s.seq := rfl
@[simp] theorem claim_mail (i : Instr) : (s.claim i).mail = s.mail := rfl
@[simp] theorem claim_relay (i : Instr) : (s.claim i).relay = s.relay := rfl
@[simp] theorem claim_wb (i : Instr) : (s.claim i).wb = s.wb := rfl
@[simp] theorem claim_core (i : Instr) : (s.claim i).core = s.core := rfl
@[simp] theorem claim_coach (i : Instr) : (s.claim i).coach = s.coach := rfl
@[simp] theorem claim_ostler (i : Instr) : (s.claim i).ostler = s.ostler := rfl
@[simp] theorem claim_power (i : Instr) : (s.claim i).power = s.power := rfl
@[simp] theorem claim_out (i : Instr) : (s.claim i).out = s.out := rfl
@[simp] theorem claim_fresh (i : Instr) : (s.claim i).fresh = s.fresh := rfl
@[simp] theorem claim_pending (i : Instr) : (s.claim i).pending = s.pending := rfl

/-! ## undue -/

@[simp] theorem undue_phase (i : Instr) (l : List Nat) : (s.undue i l).phase = s.phase := rfl
@[simp] theorem undue_time (i : Instr) (l : List Nat) : (s.undue i l).time = s.time := rfl
@[simp] theorem undue_cycle (i : Instr) (l : List Nat) : (s.undue i l).cycle = s.cycle := rfl
@[simp] theorem undue_leg (i : Instr) (l : List Nat) : (s.undue i l).leg = s.leg := rfl
@[simp] theorem undue_legOpen (i : Instr) (l : List Nat) : (s.undue i l).legOpen = s.legOpen := rfl
@[simp] theorem undue_opening (i : Instr) (l : List Nat) : (s.undue i l).opening = s.opening := rfl
@[simp] theorem undue_pins (i : Instr) (l : List Nat) : (s.undue i l).pins = s.pins := rfl
@[simp] theorem undue_hw (i : Instr) (l : List Nat) : (s.undue i l).hw = s.hw := rfl
@[simp] theorem undue_regs (i : Instr) (l : List Nat) : (s.undue i l).regs = s.regs := rfl
@[simp] theorem undue_yard (i : Instr) (l : List Nat) : (s.undue i l).yard = s.yard := rfl
@[simp] theorem undue_tensor (i : Instr) (l : List Nat) : (s.undue i l).tensor = s.tensor := rfl
@[simp] theorem undue_seq (i : Instr) (l : List Nat) : (s.undue i l).seq = s.seq := rfl
@[simp] theorem undue_mail (i : Instr) (l : List Nat) : (s.undue i l).mail = s.mail := rfl
@[simp] theorem undue_relay (i : Instr) (l : List Nat) : (s.undue i l).relay = s.relay := rfl
@[simp] theorem undue_wb (i : Instr) (l : List Nat) : (s.undue i l).wb = s.wb := rfl
@[simp] theorem undue_core (i : Instr) (l : List Nat) : (s.undue i l).core = s.core := rfl
@[simp] theorem undue_coach (i : Instr) (l : List Nat) : (s.undue i l).coach = s.coach := rfl
@[simp] theorem undue_ostler (i : Instr) (l : List Nat) : (s.undue i l).ostler = s.ostler := rfl
@[simp] theorem undue_power (i : Instr) (l : List Nat) : (s.undue i l).power = s.power := rfl
@[simp] theorem undue_out (i : Instr) (l : List Nat) : (s.undue i l).out = s.out := rfl
@[simp] theorem undue_fresh (i : Instr) (l : List Nat) : (s.undue i l).fresh = s.fresh := rfl
@[simp] theorem undue_pending (i : Instr) (l : List Nat) : (s.undue i l).pending = s.pending := rfl

/-! ## free -/

@[simp] theorem free_phase : (s.free.2).phase = s.phase := rfl
@[simp] theorem free_time : (s.free.2).time = s.time := rfl
@[simp] theorem free_cycle : (s.free.2).cycle = s.cycle := rfl
@[simp] theorem free_leg : (s.free.2).leg = s.leg := rfl
@[simp] theorem free_legOpen : (s.free.2).legOpen = s.legOpen := rfl
@[simp] theorem free_opening : (s.free.2).opening = s.opening := rfl
@[simp] theorem free_pins : (s.free.2).pins = s.pins := rfl
@[simp] theorem free_hw : (s.free.2).hw = s.hw := rfl
@[simp] theorem free_regs : (s.free.2).regs = s.regs := rfl
@[simp] theorem free_yard : (s.free.2).yard = s.yard := rfl
@[simp] theorem free_tensor : (s.free.2).tensor = s.tensor := rfl
@[simp] theorem free_seq : (s.free.2).seq = s.seq := rfl
@[simp] theorem free_mail : (s.free.2).mail = s.mail := rfl
@[simp] theorem free_relay : (s.free.2).relay = s.relay := rfl
@[simp] theorem free_wb : (s.free.2).wb = s.wb := rfl
@[simp] theorem free_core : (s.free.2).core = s.core := rfl
@[simp] theorem free_coach : (s.free.2).coach = s.coach := rfl
@[simp] theorem free_ostler : (s.free.2).ostler = s.ostler := rfl
@[simp] theorem free_power : (s.free.2).power = s.power := rfl
@[simp] theorem free_out : (s.free.2).out = s.out := rfl
@[simp] theorem free_agenda : (s.free.2).agenda = s.agenda := rfl
@[simp] theorem free_pending : (s.free.2).pending = s.pending := rfl

/-! ## flip -/

@[simp] theorem flip_phase : (s.flip.2).phase = s.phase := rfl
@[simp] theorem flip_time : (s.flip.2).time = s.time := rfl
@[simp] theorem flip_cycle : (s.flip.2).cycle = s.cycle := rfl
@[simp] theorem flip_leg : (s.flip.2).leg = s.leg := rfl
@[simp] theorem flip_legOpen : (s.flip.2).legOpen = s.legOpen := rfl
@[simp] theorem flip_opening : (s.flip.2).opening = s.opening := rfl
@[simp] theorem flip_pins : (s.flip.2).pins = s.pins := rfl
@[simp] theorem flip_hw : (s.flip.2).hw = s.hw := rfl
@[simp] theorem flip_regs : (s.flip.2).regs = s.regs := rfl
@[simp] theorem flip_yard : (s.flip.2).yard = s.yard := rfl
@[simp] theorem flip_tensor : (s.flip.2).tensor = s.tensor := rfl
@[simp] theorem flip_seq : (s.flip.2).seq = s.seq := rfl
@[simp] theorem flip_mail : (s.flip.2).mail = s.mail := rfl
@[simp] theorem flip_relay : (s.flip.2).relay = s.relay := rfl
@[simp] theorem flip_wb : (s.flip.2).wb = s.wb := rfl
@[simp] theorem flip_core : (s.flip.2).core = s.core := rfl
@[simp] theorem flip_coach : (s.flip.2).coach = s.coach := rfl
@[simp] theorem flip_ostler : (s.flip.2).ostler = s.ostler := rfl
@[simp] theorem flip_power : (s.flip.2).power = s.power := rfl
@[simp] theorem flip_out : (s.flip.2).out = s.out := rfl
@[simp] theorem flip_agenda : (s.flip.2).agenda = s.agenda := rfl
@[simp] theorem flip_pending : (s.flip.2).pending = s.pending := rfl

/-! ## yWrite -/

@[simp] theorem yWrite_phase (o : Nat) (bs : List Byte) : (s.yWrite o bs).phase = s.phase := rfl
@[simp] theorem yWrite_time (o : Nat) (bs : List Byte) : (s.yWrite o bs).time = s.time := rfl
@[simp] theorem yWrite_cycle (o : Nat) (bs : List Byte) : (s.yWrite o bs).cycle = s.cycle := rfl
@[simp] theorem yWrite_leg (o : Nat) (bs : List Byte) : (s.yWrite o bs).leg = s.leg := rfl
@[simp] theorem yWrite_legOpen (o : Nat) (bs : List Byte) : (s.yWrite o bs).legOpen = s.legOpen := rfl
@[simp] theorem yWrite_opening (o : Nat) (bs : List Byte) : (s.yWrite o bs).opening = s.opening := rfl
@[simp] theorem yWrite_pins (o : Nat) (bs : List Byte) : (s.yWrite o bs).pins = s.pins := rfl
@[simp] theorem yWrite_hw (o : Nat) (bs : List Byte) : (s.yWrite o bs).hw = s.hw := rfl
@[simp] theorem yWrite_regs (o : Nat) (bs : List Byte) : (s.yWrite o bs).regs = s.regs := rfl
@[simp] theorem yWrite_tensor (o : Nat) (bs : List Byte) : (s.yWrite o bs).tensor = s.tensor := rfl
@[simp] theorem yWrite_seq (o : Nat) (bs : List Byte) : (s.yWrite o bs).seq = s.seq := rfl
@[simp] theorem yWrite_mail (o : Nat) (bs : List Byte) : (s.yWrite o bs).mail = s.mail := rfl
@[simp] theorem yWrite_relay (o : Nat) (bs : List Byte) : (s.yWrite o bs).relay = s.relay := rfl
@[simp] theorem yWrite_wb (o : Nat) (bs : List Byte) : (s.yWrite o bs).wb = s.wb := rfl
@[simp] theorem yWrite_core (o : Nat) (bs : List Byte) : (s.yWrite o bs).core = s.core := rfl
@[simp] theorem yWrite_ostler (o : Nat) (bs : List Byte) : (s.yWrite o bs).ostler = s.ostler := rfl
@[simp] theorem yWrite_power (o : Nat) (bs : List Byte) : (s.yWrite o bs).power = s.power := rfl
@[simp] theorem yWrite_out (o : Nat) (bs : List Byte) : (s.yWrite o bs).out = s.out := rfl
@[simp] theorem yWrite_agenda (o : Nat) (bs : List Byte) : (s.yWrite o bs).agenda = s.agenda := rfl
@[simp] theorem yWrite_fresh (o : Nat) (bs : List Byte) : (s.yWrite o bs).fresh = s.fresh := rfl
@[simp] theorem yWrite_pending (o : Nat) (bs : List Byte) : (s.yWrite o bs).pending = s.pending := rfl

/-! ## wrSet -/

@[simp] theorem wrSet_phase (o : Nat) (v : Word) : (s.wrSet o v).phase = s.phase := rfl
@[simp] theorem wrSet_time (o : Nat) (v : Word) : (s.wrSet o v).time = s.time := rfl
@[simp] theorem wrSet_cycle (o : Nat) (v : Word) : (s.wrSet o v).cycle = s.cycle := rfl
@[simp] theorem wrSet_leg (o : Nat) (v : Word) : (s.wrSet o v).leg = s.leg := rfl
@[simp] theorem wrSet_legOpen (o : Nat) (v : Word) : (s.wrSet o v).legOpen = s.legOpen := rfl
@[simp] theorem wrSet_opening (o : Nat) (v : Word) : (s.wrSet o v).opening = s.opening := rfl
@[simp] theorem wrSet_pins (o : Nat) (v : Word) : (s.wrSet o v).pins = s.pins := rfl
@[simp] theorem wrSet_yard (o : Nat) (v : Word) : (s.wrSet o v).yard = s.yard := rfl
@[simp] theorem wrSet_tensor (o : Nat) (v : Word) : (s.wrSet o v).tensor = s.tensor := rfl
@[simp] theorem wrSet_seq (o : Nat) (v : Word) : (s.wrSet o v).seq = s.seq := rfl
@[simp] theorem wrSet_mail (o : Nat) (v : Word) : (s.wrSet o v).mail = s.mail := rfl
@[simp] theorem wrSet_relay (o : Nat) (v : Word) : (s.wrSet o v).relay = s.relay := rfl
@[simp] theorem wrSet_wb (o : Nat) (v : Word) : (s.wrSet o v).wb = s.wb := rfl
@[simp] theorem wrSet_core (o : Nat) (v : Word) : (s.wrSet o v).core = s.core := rfl
@[simp] theorem wrSet_coach (o : Nat) (v : Word) : (s.wrSet o v).coach = s.coach := rfl
@[simp] theorem wrSet_ostler (o : Nat) (v : Word) : (s.wrSet o v).ostler = s.ostler := rfl
@[simp] theorem wrSet_power (o : Nat) (v : Word) : (s.wrSet o v).power = s.power := rfl
@[simp] theorem wrSet_out (o : Nat) (v : Word) : (s.wrSet o v).out = s.out := rfl
@[simp] theorem wrSet_agenda (o : Nat) (v : Word) : (s.wrSet o v).agenda = s.agenda := rfl
@[simp] theorem wrSet_fresh (o : Nat) (v : Word) : (s.wrSet o v).fresh = s.fresh := rfl
@[simp] theorem wrSet_pending (o : Nat) (v : Word) : (s.wrSet o v).pending = s.pending := rfl

/-! ## wins -/

@[simp] theorem wins_phase (o : Nat) (m : Word) : (s.wins o m).phase = s.phase := rfl
@[simp] theorem wins_time (o : Nat) (m : Word) : (s.wins o m).time = s.time := rfl
@[simp] theorem wins_cycle (o : Nat) (m : Word) : (s.wins o m).cycle = s.cycle := rfl
@[simp] theorem wins_leg (o : Nat) (m : Word) : (s.wins o m).leg = s.leg := rfl
@[simp] theorem wins_legOpen (o : Nat) (m : Word) : (s.wins o m).legOpen = s.legOpen := rfl
@[simp] theorem wins_opening (o : Nat) (m : Word) : (s.wins o m).opening = s.opening := rfl
@[simp] theorem wins_pins (o : Nat) (m : Word) : (s.wins o m).pins = s.pins := rfl
@[simp] theorem wins_regs (o : Nat) (m : Word) : (s.wins o m).regs = s.regs := rfl
@[simp] theorem wins_yard (o : Nat) (m : Word) : (s.wins o m).yard = s.yard := rfl
@[simp] theorem wins_tensor (o : Nat) (m : Word) : (s.wins o m).tensor = s.tensor := rfl
@[simp] theorem wins_seq (o : Nat) (m : Word) : (s.wins o m).seq = s.seq := rfl
@[simp] theorem wins_mail (o : Nat) (m : Word) : (s.wins o m).mail = s.mail := rfl
@[simp] theorem wins_relay (o : Nat) (m : Word) : (s.wins o m).relay = s.relay := rfl
@[simp] theorem wins_wb (o : Nat) (m : Word) : (s.wins o m).wb = s.wb := rfl
@[simp] theorem wins_core (o : Nat) (m : Word) : (s.wins o m).core = s.core := rfl
@[simp] theorem wins_coach (o : Nat) (m : Word) : (s.wins o m).coach = s.coach := rfl
@[simp] theorem wins_ostler (o : Nat) (m : Word) : (s.wins o m).ostler = s.ostler := rfl
@[simp] theorem wins_power (o : Nat) (m : Word) : (s.wins o m).power = s.power := rfl
@[simp] theorem wins_out (o : Nat) (m : Word) : (s.wins o m).out = s.out := rfl
@[simp] theorem wins_agenda (o : Nat) (m : Word) : (s.wins o m).agenda = s.agenda := rfl
@[simp] theorem wins_fresh (o : Nat) (m : Word) : (s.wins o m).fresh = s.fresh := rfl
@[simp] theorem wins_pending (o : Nat) (m : Word) : (s.wins o m).pending = s.pending := rfl

/-! ## ask -/

@[simp] theorem ask_phase (o : Nat) (m : Word) : (s.ask o m).phase = s.phase := rfl
@[simp] theorem ask_time (o : Nat) (m : Word) : (s.ask o m).time = s.time := rfl
@[simp] theorem ask_cycle (o : Nat) (m : Word) : (s.ask o m).cycle = s.cycle := rfl
@[simp] theorem ask_leg (o : Nat) (m : Word) : (s.ask o m).leg = s.leg := rfl
@[simp] theorem ask_legOpen (o : Nat) (m : Word) : (s.ask o m).legOpen = s.legOpen := rfl
@[simp] theorem ask_opening (o : Nat) (m : Word) : (s.ask o m).opening = s.opening := rfl
@[simp] theorem ask_pins (o : Nat) (m : Word) : (s.ask o m).pins = s.pins := rfl
@[simp] theorem ask_regs (o : Nat) (m : Word) : (s.ask o m).regs = s.regs := rfl
@[simp] theorem ask_yard (o : Nat) (m : Word) : (s.ask o m).yard = s.yard := rfl
@[simp] theorem ask_tensor (o : Nat) (m : Word) : (s.ask o m).tensor = s.tensor := rfl
@[simp] theorem ask_seq (o : Nat) (m : Word) : (s.ask o m).seq = s.seq := rfl
@[simp] theorem ask_mail (o : Nat) (m : Word) : (s.ask o m).mail = s.mail := rfl
@[simp] theorem ask_relay (o : Nat) (m : Word) : (s.ask o m).relay = s.relay := rfl
@[simp] theorem ask_wb (o : Nat) (m : Word) : (s.ask o m).wb = s.wb := rfl
@[simp] theorem ask_core (o : Nat) (m : Word) : (s.ask o m).core = s.core := rfl
@[simp] theorem ask_coach (o : Nat) (m : Word) : (s.ask o m).coach = s.coach := rfl
@[simp] theorem ask_ostler (o : Nat) (m : Word) : (s.ask o m).ostler = s.ostler := rfl
@[simp] theorem ask_power (o : Nat) (m : Word) : (s.ask o m).power = s.power := rfl
@[simp] theorem ask_out (o : Nat) (m : Word) : (s.ask o m).out = s.out := rfl
@[simp] theorem ask_agenda (o : Nat) (m : Word) : (s.ask o m).agenda = s.agenda := rfl
@[simp] theorem ask_fresh (o : Nat) (m : Word) : (s.ask o m).fresh = s.fresh := rfl
@[simp] theorem ask_pending (o : Nat) (m : Word) : (s.ask o m).pending = s.pending := rfl

/-! ## takePort -/

@[simp] theorem takePort_phase (b : Nat) : (s.takePort b).phase = s.phase := rfl
@[simp] theorem takePort_time (b : Nat) : (s.takePort b).time = s.time := rfl
@[simp] theorem takePort_cycle (b : Nat) : (s.takePort b).cycle = s.cycle := rfl
@[simp] theorem takePort_leg (b : Nat) : (s.takePort b).leg = s.leg := rfl
@[simp] theorem takePort_legOpen (b : Nat) : (s.takePort b).legOpen = s.legOpen := rfl
@[simp] theorem takePort_opening (b : Nat) : (s.takePort b).opening = s.opening := rfl
@[simp] theorem takePort_pins (b : Nat) : (s.takePort b).pins = s.pins := rfl
@[simp] theorem takePort_regs (b : Nat) : (s.takePort b).regs = s.regs := rfl
@[simp] theorem takePort_hw (b : Nat) : (s.takePort b).hw = s.hw := rfl
@[simp] theorem takePort_tensor (b : Nat) : (s.takePort b).tensor = s.tensor := rfl
@[simp] theorem takePort_seq (b : Nat) : (s.takePort b).seq = s.seq := rfl
@[simp] theorem takePort_mail (b : Nat) : (s.takePort b).mail = s.mail := rfl
@[simp] theorem takePort_relay (b : Nat) : (s.takePort b).relay = s.relay := rfl
@[simp] theorem takePort_wb (b : Nat) : (s.takePort b).wb = s.wb := rfl
@[simp] theorem takePort_core (b : Nat) : (s.takePort b).core = s.core := rfl
@[simp] theorem takePort_coach (b : Nat) : (s.takePort b).coach = s.coach := rfl
@[simp] theorem takePort_ostler (b : Nat) : (s.takePort b).ostler = s.ostler := rfl
@[simp] theorem takePort_power (b : Nat) : (s.takePort b).power = s.power := rfl
@[simp] theorem takePort_out (b : Nat) : (s.takePort b).out = s.out := rfl
@[simp] theorem takePort_agenda (b : Nat) : (s.takePort b).agenda = s.agenda := rfl
@[simp] theorem takePort_fresh (b : Nat) : (s.takePort b).fresh = s.fresh := rfl
@[simp] theorem takePort_pending (b : Nat) : (s.takePort b).pending = s.pending := rfl

/-! ## joinTail -/

@[simp] theorem joinTail_phase (b : Nat) (r : TailReq) : (s.joinTail b r).phase = s.phase := rfl
@[simp] theorem joinTail_time (b : Nat) (r : TailReq) : (s.joinTail b r).time = s.time := rfl
@[simp] theorem joinTail_cycle (b : Nat) (r : TailReq) : (s.joinTail b r).cycle = s.cycle := rfl
@[simp] theorem joinTail_leg (b : Nat) (r : TailReq) : (s.joinTail b r).leg = s.leg := rfl
@[simp] theorem joinTail_legOpen (b : Nat) (r : TailReq) : (s.joinTail b r).legOpen = s.legOpen := rfl
@[simp] theorem joinTail_opening (b : Nat) (r : TailReq) : (s.joinTail b r).opening = s.opening := rfl
@[simp] theorem joinTail_pins (b : Nat) (r : TailReq) : (s.joinTail b r).pins = s.pins := rfl
@[simp] theorem joinTail_regs (b : Nat) (r : TailReq) : (s.joinTail b r).regs = s.regs := rfl
@[simp] theorem joinTail_hw (b : Nat) (r : TailReq) : (s.joinTail b r).hw = s.hw := rfl
@[simp] theorem joinTail_tensor (b : Nat) (r : TailReq) : (s.joinTail b r).tensor = s.tensor := rfl
@[simp] theorem joinTail_seq (b : Nat) (r : TailReq) : (s.joinTail b r).seq = s.seq := rfl
@[simp] theorem joinTail_mail (b : Nat) (r : TailReq) : (s.joinTail b r).mail = s.mail := rfl
@[simp] theorem joinTail_relay (b : Nat) (r : TailReq) : (s.joinTail b r).relay = s.relay := rfl
@[simp] theorem joinTail_wb (b : Nat) (r : TailReq) : (s.joinTail b r).wb = s.wb := rfl
@[simp] theorem joinTail_core (b : Nat) (r : TailReq) : (s.joinTail b r).core = s.core := rfl
@[simp] theorem joinTail_coach (b : Nat) (r : TailReq) : (s.joinTail b r).coach = s.coach := rfl
@[simp] theorem joinTail_ostler (b : Nat) (r : TailReq) : (s.joinTail b r).ostler = s.ostler := rfl
@[simp] theorem joinTail_power (b : Nat) (r : TailReq) : (s.joinTail b r).power = s.power := rfl
@[simp] theorem joinTail_out (b : Nat) (r : TailReq) : (s.joinTail b r).out = s.out := rfl
@[simp] theorem joinTail_agenda (b : Nat) (r : TailReq) : (s.joinTail b r).agenda = s.agenda := rfl
@[simp] theorem joinTail_fresh (b : Nat) (r : TailReq) : (s.joinTail b r).fresh = s.fresh := rfl
@[simp] theorem joinTail_pending (b : Nat) (r : TailReq) : (s.joinTail b r).pending = s.pending := rfl

/-! ## setG and count -/

@[simp] theorem setG_phase (r : Nat) (v : Word) : (s.setG r v).phase = s.phase := by unfold State.setG; split <;> rfl
@[simp] theorem setG_time (r : Nat) (v : Word) : (s.setG r v).time = s.time := by unfold State.setG; split <;> rfl
@[simp] theorem setG_cycle (r : Nat) (v : Word) : (s.setG r v).cycle = s.cycle := by unfold State.setG; split <;> rfl
@[simp] theorem setG_leg (r : Nat) (v : Word) : (s.setG r v).leg = s.leg := by unfold State.setG; split <;> rfl
@[simp] theorem setG_legOpen (r : Nat) (v : Word) : (s.setG r v).legOpen = s.legOpen := by unfold State.setG; split <;> rfl
@[simp] theorem setG_opening (r : Nat) (v : Word) : (s.setG r v).opening = s.opening := by unfold State.setG; split <;> rfl
@[simp] theorem setG_pins (r : Nat) (v : Word) : (s.setG r v).pins = s.pins := by unfold State.setG; split <;> rfl
@[simp] theorem setG_hw (r : Nat) (v : Word) : (s.setG r v).hw = s.hw := by unfold State.setG; split <;> rfl
@[simp] theorem setG_regs (r : Nat) (v : Word) : (s.setG r v).regs = s.regs := by unfold State.setG; split <;> rfl
@[simp] theorem setG_yard (r : Nat) (v : Word) : (s.setG r v).yard = s.yard := by unfold State.setG; split <;> rfl
@[simp] theorem setG_tensor (r : Nat) (v : Word) : (s.setG r v).tensor = s.tensor := by unfold State.setG; split <;> rfl
@[simp] theorem setG_seq (r : Nat) (v : Word) : (s.setG r v).seq = s.seq := by unfold State.setG; split <;> rfl
@[simp] theorem setG_mail (r : Nat) (v : Word) : (s.setG r v).mail = s.mail := by unfold State.setG; split <;> rfl
@[simp] theorem setG_relay (r : Nat) (v : Word) : (s.setG r v).relay = s.relay := by unfold State.setG; split <;> rfl
@[simp] theorem setG_wb (r : Nat) (v : Word) : (s.setG r v).wb = s.wb := by unfold State.setG; split <;> rfl
@[simp] theorem setG_coach (r : Nat) (v : Word) : (s.setG r v).coach = s.coach := by unfold State.setG; split <;> rfl
@[simp] theorem setG_ostler (r : Nat) (v : Word) : (s.setG r v).ostler = s.ostler := by unfold State.setG; split <;> rfl
@[simp] theorem setG_power (r : Nat) (v : Word) : (s.setG r v).power = s.power := by unfold State.setG; split <;> rfl
@[simp] theorem setG_out (r : Nat) (v : Word) : (s.setG r v).out = s.out := by unfold State.setG; split <;> rfl
@[simp] theorem setG_agenda (r : Nat) (v : Word) : (s.setG r v).agenda = s.agenda := by unfold State.setG; split <;> rfl
@[simp] theorem setG_fresh (r : Nat) (v : Word) : (s.setG r v).fresh = s.fresh := by unfold State.setG; split <;> rfl
@[simp] theorem setG_pending (r : Nat) (v : Word) : (s.setG r v).pending = s.pending := by unfold State.setG; split <;> rfl
@[simp] theorem count_phase (o n : Nat) : (s.count o n).phase = s.phase := by unfold State.count; dsimp only; split <;> rfl
@[simp] theorem count_time (o n : Nat) : (s.count o n).time = s.time := by unfold State.count; dsimp only; split <;> rfl
@[simp] theorem count_cycle (o n : Nat) : (s.count o n).cycle = s.cycle := by unfold State.count; dsimp only; split <;> rfl
@[simp] theorem count_leg (o n : Nat) : (s.count o n).leg = s.leg := by unfold State.count; dsimp only; split <;> rfl
@[simp] theorem count_legOpen (o n : Nat) : (s.count o n).legOpen = s.legOpen := by unfold State.count; dsimp only; split <;> rfl
@[simp] theorem count_opening (o n : Nat) : (s.count o n).opening = s.opening := by unfold State.count; dsimp only; split <;> rfl
@[simp] theorem count_pins (o n : Nat) : (s.count o n).pins = s.pins := by unfold State.count; dsimp only; split <;> rfl
@[simp] theorem count_yard (o n : Nat) : (s.count o n).yard = s.yard := by unfold State.count; dsimp only; split <;> rfl
@[simp] theorem count_tensor (o n : Nat) : (s.count o n).tensor = s.tensor := by unfold State.count; dsimp only; split <;> rfl
@[simp] theorem count_seq (o n : Nat) : (s.count o n).seq = s.seq := by unfold State.count; dsimp only; split <;> rfl
@[simp] theorem count_mail (o n : Nat) : (s.count o n).mail = s.mail := by unfold State.count; dsimp only; split <;> rfl
@[simp] theorem count_relay (o n : Nat) : (s.count o n).relay = s.relay := by unfold State.count; dsimp only; split <;> rfl
@[simp] theorem count_wb (o n : Nat) : (s.count o n).wb = s.wb := by unfold State.count; dsimp only; split <;> rfl
@[simp] theorem count_core (o n : Nat) : (s.count o n).core = s.core := by unfold State.count; dsimp only; split <;> rfl
@[simp] theorem count_coach (o n : Nat) : (s.count o n).coach = s.coach := by unfold State.count; dsimp only; split <;> rfl
@[simp] theorem count_ostler (o n : Nat) : (s.count o n).ostler = s.ostler := by unfold State.count; dsimp only; split <;> rfl
@[simp] theorem count_power (o n : Nat) : (s.count o n).power = s.power := by unfold State.count; dsimp only; split <;> rfl
@[simp] theorem count_out (o n : Nat) : (s.count o n).out = s.out := by unfold State.count; dsimp only; split <;> rfl
@[simp] theorem count_agenda (o n : Nat) : (s.count o n).agenda = s.agenda := by unfold State.count; dsimp only; split <;> rfl
@[simp] theorem count_fresh (o n : Nat) : (s.count o n).fresh = s.fresh := by unfold State.count; dsimp only; split <;> rfl
@[simp] theorem count_pending (o n : Nat) : (s.count o n).pending = s.pending := by unfold State.count; dsimp only; split <;> rfl

@[simp] theorem setG_pc (r : Nat) (v : Word) : (s.setG r v).core.pc = s.core.pc := by unfold State.setG; split <;> rfl
@[simp] theorem setG_run (r : Nat) (v : Word) : (s.setG r v).core.run = s.core.run := by unfold State.setG; split <;> rfl

/-! ## Registers -/

/-- A register reads what was last written to it; every other one as before. -/
@[simp] theorem rd_wr (o o' : Nat) (v : Word) : (s.wr o v).rd o' = if o' = o then v else s.rd o' := by
  simp [State.rd, State.wr]

@[simp] theorem look_regs (o : Nat) : look resetOf o s.regs = s.rd o := rfl
@[simp] theorem rd_mk (o : Nat) {a0} {a1} {a2} {a3} {a4} {a5} {a6} {a7} {a8} {a9} {a10} {a11} {a12} {a13} {a14} {a15} {a16} {a17} {a18} {a19} {a20} {a21} {a22} :
    (State.mk a0 a1 a2 a3 a4 a5 a6 a7 a8 a9 a10 a11 a12 a13 a14 a15 a16 a17 a18 a19 a20 a21 a22).rd o = look resetOf o a7 := rfl

theorem rd_wr_same (o : Nat) (v : Word) : (s.wr o v).rd o = v := by simp
theorem rd_wr_other (o o' : Nat) (v : Word) (h : o' ≠ o) : (s.wr o v).rd o' = s.rd o' := by simp [h]

@[simp] theorem rd_setF (o o' hi lo v : Nat) : (s.setF o hi lo v).rd o' = if o' = o then setFld (s.rd o) hi lo v else s.rd o' := by
  simp [State.setF]
@[simp] theorem rd_setB (o o' i : Nat) (v : Bool) : (s.setB o i v).rd o' = if o' = o then setBit (s.rd o) i v else s.rd o' := by
  simp [State.setB]
@[simp] theorem rd_orBits (o o' : Nat) (m : Word) : (s.orBits o m).rd o' = if o' = o then s.rd o ||| m else s.rd o' := by
  simp [State.orBits]
@[simp] theorem rd_wrSet (o o' : Nat) (v : Word) : (s.wrSet o v).rd o' = if o' = o then v else s.rd o' := by
  simp [State.wrSet]
@[simp] theorem rd_wins (o o' : Nat) (m : Word) : (s.wins o m).rd o' = s.rd o' := rfl
@[simp] theorem rd_ask (o o' : Nat) (m : Word) : (s.ask o m).rd o' = s.rd o' := rfl
@[simp] theorem rd_setG (o r : Nat) (v : Word) : (s.setG r v).rd o = s.rd o := by unfold State.rd; simp only [setG_regs]

/-- A field reads what it was set to. -/
theorem f_setF_same (o hi lo v : Nat) (hl : lo ≤ hi) (hn : hi < 64) : (s.setF o hi lo v).f o hi lo = v % 2 ^ (hi + 1 - lo) := by
  rw [State.f, rd_setF, if_pos rfl, fld_setFld_same _ _ _ _ hl hn]
theorem b_setB_same (o i : Nat) (v : Bool) (hn : i < 64) : (s.setB o i v).b o i = v := by
  rw [State.b, rd_setB, if_pos rfl, bit_setBit_same _ _ _ hn]
theorem f_other (o o' hi lo : Nat) (v : Word) (h : o' ≠ o) : (s.wr o v).f o' hi lo = s.f o' hi lo := by
  simp [State.f, h]
theorem b_other (o o' i : Nat) (v : Word) (h : o' ≠ o) : (s.wr o v).b o' i = s.b o' i := by
  simp [State.b, h]

/-! ## General registers (R319) -/

@[simp] theorem g_zero : s.g 0 = 0 := rfl
@[simp] theorem setG_zero (v : Word) : s.setG 0 v = s := rfl

/-- What a general register reads after a write of one. -/
theorem g_setG (i r : Nat) (v : Word) (hr : r < 32) : (s.setG r v).g i = if i = r ∧ r ≠ 0 then v else s.g i := by
  unfold State.setG State.g
  by_cases h0 : r = 0
  · subst h0; by_cases hi : i = 0 <;> simp [hi]
  · by_cases hi : i = 0
    · subst hi; simp [h0, Ne.symm h0]
    · simp only [h0, hi, if_false, ne_eq, not_false_eq_true, and_true]
      simp only [Vector.setIfInBounds, Vector.toList, Array.toList_setIfInBounds, List.getD_eq_getElem?_getD, List.getElem?_set]
      by_cases h : i = r
      · subst h; simp [hr]
      · simp [h, Ne.symm h]

end Sys2Proof.Machine
end

