-- ==== Sys2Proof/Laws/Yard.lean ====
section
/-! SUPPORT. The Yard as the core reaches it: which addresses it serves, what a plain read gives, and bytes as numbers. Lemmas are
stated over an address with its place, so that no proof compares the large sums of R41. -/

namespace Sys2Proof.Machine

/-! ## Bytes -/

theorem loaded_eq (sg : Bool) (n v : Nat) (bs : List Byte) (h : ofBytes bs = v) (hv : v < 2 ^ (8 * n)) :
   loaded sg n bs = if sg ∧ 2 ^ (8 * n - 1) ≤ v then BitVec.ofInt 64 (v - 2 ^ (8 * n)) else BitVec.ofNat 64 v := by
  subst h
  cases sg
  · simp [loaded]
  · have e : ((2:Int) ^ (8 * n)) = ((2 ^ (8 * n) : Nat) : Int) := by push_cast; rfl
    simp only [loaded, if_true, sext, Nat.mod_eq_of_lt hv]
    by_cases c : 2 ^ (8 * n - 1) ≤ ofBytes bs
    · simp only [c, if_true, true_and]; congr 1; rw [e, ← Int.natCast_mod, Nat.mod_eq_of_lt hv]
    · simp only [c, if_false, and_false]; rw [e, ← Int.natCast_mod, Nat.mod_eq_of_lt hv]; simp

theorem ofBytes_lt (bs : List Byte) : ofBytes bs < 2 ^ (8 * bs.length) := by
  induction bs with
  | nil => simp [ofBytes]
  | cons b t ih =>
    have := b.isLt
    simp only [ofBytes, List.length_cons]
    rw [show 8 * (t.length + 1) = 8 * t.length + 8 by ring, pow_add]
    omega


theorem toBytes_length (n v : Nat) : (toBytes n v).length = n := by
  induction n generalizing v with
  | zero => rfl
  | succ n ih => simp [toBytes, ih]

theorem ofBytes_toBytes (n v : Nat) : ofBytes (toBytes n v) = v % 2 ^ (8 * n) := by
  induction n generalizing v with
  | zero => simp [toBytes, ofBytes, Nat.mod_one]
  | succ n ih =>
    have e : 2 ^ (8 * (n + 1)) = 256 * 2 ^ (8 * n) := by rw [show 8 * (n + 1) = 8 * n + 8 by ring, pow_add]; ring
    simp only [toBytes, ofBytes, ih, BitVec.toNat_ofNat, e, Nat.mod_mul]

theorem toBytes_eq (n v : Nat) : toBytes n v = (List.range n).map (fun i => BitVec.ofNat 8 (v / 256 ^ i)) := by
  induction n generalizing v with
  | zero => rfl
  | succ n ih =>
    rw [toBytes, ih, List.range_succ_eq_map, List.map_cons, List.map_map]
    congr 1
    · simp
    · apply List.map_congr_left; intro i _; simp [Nat.div_div_eq_div_mul, pow_succ, Nat.mul_comm]

/-! ## Addresses -/

theorem place_yardPA (s : State) (y : Nat) (h : y < yardBytes) : s.place (s.yardPA y) = .yard y := by
  have hp := s.pins.pkg.isLt
  have hb := s.pins.blk.isLt
  unfold yardBytes at h
  have e1 : s.yardPA y % 2 ^ 50 = 0x100000000000 + s.pins.blk.toNat * 0x100000000 + y := by unfold State.yardPA; omega
  have e2 : s.yardPA y / 2 ^ 50 = s.pins.pkg.toNat := by unfold State.yardPA; omega
  simp only [State.place, localOf, pkgOf, e1, e2, ne_eq, not_true_eq_false, if_false]
  rw [if_neg (by omega), if_pos (by omega)]
  have e3 : (0x100000000000 + s.pins.blk.toNat * 0x100000000 + y - 0x100000000000) % 0x100000000 = y := by omega
  have e4 : (0x100000000000 + s.pins.blk.toNat * 0x100000000 + y - 0x100000000000) / 0x100000000 = s.pins.blk.toNat := by omega
  rw [e3, e4, if_neg (by unfold yardBytes; omega), if_pos rfl]

theorem yardPA_lt (s : State) (y : Nat) (h : y < yardBytes) : s.yardPA y < 2 ^ 56 := by
  have hp := s.pins.pkg.isLt
  have hb := s.pins.blk.isLt
  have hy : y < 402653184 := h
  rw [State.yardPA]
  omega
theorem yardPA_parts (s : State) (y : Nat) (h : y < yardBytes) : localOf (s.yardPA y) = 0x100000000000 + s.pins.blk.toNat * 0x100000000 + y ∧
   pkgOf (s.yardPA y) = s.pins.pkg.toNat := by
  have hp := s.pins.pkg.isLt
  have hb := s.pins.blk.isLt
  have hy : y < 402653184 := h
  rw [localOf, pkgOf, State.yardPA]
  omega
theorem blk_parts (b y : Nat) (hy : y < 402653184) : (0x100000000000 + b * 0x100000000 + y - 0x100000000000) % 0x100000000 = y ∧
  (0x100000000000 + b * 0x100000000 + y - 0x100000000000) / 0x100000000 = b := by omega

theorem classAt_of (s : State) (a : Nat) (c0 : s.classRange 0 a 1 = false) (c1 : s.classRange 1 a 1 = true) :
    s.classAt a = some .yard := by
  simp only [State.classAt, List.find?, c0, c1, classOf, Option.bind]

theorem classAt_yardPA (s : State) (y : Nat) (h : y < yardBytes) : s.classAt (s.yardPA y) = some .yard := by
  have hb := s.pins.blk.isLt
  obtain ⟨e1, e2⟩ := yardPA_parts s y h
  have hy : y < 402653184 := h
  obtain ⟨e3, e4⟩ := blk_parts s.pins.blk.toNat y hy
  have c0 : s.classRange 0 (s.yardPA y) 1 = false := by
    simp only [State.classRange, e1, e2]
    rw [show decide (0x100000000000 + s.pins.blk.toNat * 0x100000000 + y + 1 ≤ 0x18000000000) = false from decide_eq_false (by omega)]
    simp only [Bool.and_false]
  have c1 : s.classRange 1 (s.yardPA y) 1 = true := by
    simp only [State.classRange, e1, e2, e3, e4]
    simp only [decide_true, Bool.true_and, Bool.and_true, Bool.and_eq_true, decide_eq_true_eq]
    exact ⟨⟨by omega, by omega⟩, Nat.succ_le_of_lt h⟩
  exact classAt_of s _ c0 c1

theorem translate_off (s : State) (va : Word) (k : Access) (o : Outside) (h0 : s.b SP_CTRL 0 = false) (hk : k ≠ .fetch)
    (h : va.toNat < 2 ^ 56) (hc : s.classAt va.toNat = some .yard) : s.translate va k o = (.ok va.toNat (some .yard), s) := by
  unfold State.translate State.translateFor
  simp only [h0]
  rw [if_neg (Nat.not_le.2 h)]
  simp only [Bool.not_false, if_true, hc]
  rw [if_neg (by simp [hk])]

/-- A range whose words are free of errors is read without a trace. -/
theorem seeRange_clean (s : State) (o n : Nat) (hb : s.badIn o n = []) (hw : s.weakIn o n = []) : s.seeRange o n = s := by
  simp [State.seeRange, hb, hw]

theorem yRead_clean (s : State) (o n : Nat) (hb : s.badIn o n = []) (hw : s.weakIn o n = []) :
    s.yRead o n = (s.yard.mem.read o n, s) := by
  simp [State.yRead, hb, seeRange_clean s o n hb hw]

theorem coreRead_yard (s : State) (va : Word) (a y n : Nat) (o : Outside) (hsb : s.core.sb = []) (hp : s.place a = .yard y) (how : s.owned coreOnly y n = true)
   (hbad : s.badIn y n = []) : s.coreRead va a n (some .yard) o = (.bytes (s.yard.mem.read y n), s.seeRange y n) := by
  simp [State.coreRead, hsb, hp, how, hbad, State.yRead]

end Sys2Proof.Machine
end

