-- ==== Sys2Proof/Laws/Access.lean ====
section
/-! SUPPORT. The core's data accesses to its own Yard: reads, byte writes and the value of a load. -/

namespace Sys2Proof.Machine

@[simp] theorem yWrite_mem (s : State) (o : Nat) (bs : List Byte) : (s.yWrite o bs).yard.mem = s.yard.mem.write o bs := rfl

@[simp] theorem yWrite_full (s : State) (o : Nat) (bs : List Byte) : (s.yWrite o bs).yard.full = s.yard.full := rfl

/-- One byte of memory. -/
theorem read1 (m : Mem) (a : Nat) : m.read a 1 = [look zeroByte a m] := by simp [Mem.read, slice_eq]

/-- Byte writes at distinct places. -/
theorem fold_write (l : List (Nat × Byte)) (y : Nat) (s : State) (hn : (l.map (·.1)).Nodup) :
    (∀ p ∈ l, look zeroByte (y + p.1) (l.foldl (fun u p => u.yWrite (y + p.1) [p.2]) s).yard.mem = p.2) ∧
    (∀ a, (∀ p ∈ l, a ≠ y + p.1) → look zeroByte a (l.foldl (fun u p => u.yWrite (y + p.1) [p.2]) s).yard.mem = look zeroByte a s.yard.mem) ∧
    (l.foldl (fun u p => u.yWrite (y + p.1) [p.2]) s).yard.full = s.yard.full ∧ (l.foldl (fun u p => u.yWrite (y + p.1) [p.2]) s).regs = s.regs ∧
    (l.foldl (fun u p => u.yWrite (y + p.1) [p.2]) s).core = s.core := by
  induction l generalizing s with
  | nil => simp
  | cons q t ih =>
    rw [List.map_cons, List.nodup_cons] at hn
    obtain ⟨h1, h2, h3, h4, h5⟩ := ih (s.yWrite (y + q.1) [q.2]) hn.2
    simp only [List.foldl_cons]
    refine ⟨?_, ?_, ?_, ?_, ?_⟩
    · intro p hp
      rcases List.mem_cons.1 hp with rfl | hp
      · rw [h2 _ (fun r hr he => hn.1 (List.mem_map.2 ⟨r, hr, by omega⟩))]
        rw [yWrite_mem, Mem.write, look_splice, dif_pos (by simp)]; simp
      · exact h1 p hp
    · intro a ha
      rw [h2 a (fun r hr => ha r (List.mem_cons_of_mem _ hr)), yWrite_mem, Mem.look_write_other]
      have := ha q List.mem_cons_self
      simp only [List.length_singleton]; omega
    · rw [h3]; rfl
    · rw [h4]; rfl
    · rw [h5]; rfl

end Sys2Proof.Machine
end

