-- ==== Sys2Proof/Laws/Canonical.lean ====
section
/-! SUPPORT. Canonical tables: every operation that writes a register, the Yard, a tile, a vector register, an accumulator, a
counter or a mailbox keeps them (log 14). -/

namespace Sys2Proof.Machine

theorem canonical_iff (s : State) : s.canonical = true ↔
    Table.wf resetOf s.regs = true ∧ s.yard.mem.wf = true ∧ s.tensor.tiles.wf = true ∧ s.tensor.vregs.wf = true ∧
    Table.wf (fun _ => (0 : BitVec 32)) s.tensor.accs = true ∧ Table.wf (fun _ => (0 : BitVec 32)) s.yard.ctrs = true ∧
    Table.wf (fun _ => (0 : Word)) s.yard.mbox = true := by
  simp only [State.canonical, Bool.and_eq_true, and_assoc]

/-- What leaves the seven tables alone leaves them canonical. -/
theorem canonical_same {s t : State} (hr : t.regs = s.regs) (hm : t.yard.mem = s.yard.mem) (hc : t.yard.ctrs = s.yard.ctrs)
    (hb : t.yard.mbox = s.yard.mbox) (ht : t.tensor.tiles = s.tensor.tiles) (hv : t.tensor.vregs = s.tensor.vregs)
    (ha : t.tensor.accs = s.tensor.accs) : t.canonical = s.canonical := by
  simp only [State.canonical, hr, hm, hc, hb, ht, hv, ha]

theorem canonical_wr (s : State) (o : Nat) (v : Word) (h : s.canonical = true) : (s.wr o v).canonical = true := by
  obtain ⟨h1, h2⟩ := (canonical_iff s).1 h
  exact (canonical_iff _).2 ⟨put_wf _ _ _ _ h1, h2⟩

theorem canonical_yWrite (s : State) (o : Nat) (bs : List Byte) (h : s.canonical = true) : (s.yWrite o bs).canonical = true := by
  obtain ⟨h1, h2, h3⟩ := (canonical_iff s).1 h
  exact (canonical_iff _).2 ⟨h1, Mem.write_wf _ _ _ h2, h3⟩

theorem canonical_tileClear (s : State) (t : Nat) (h : s.canonical = true) : (s.tileClear t).canonical = true := by
  obtain ⟨h1, h2, h3, h4⟩ := (canonical_iff s).1 h
  exact (canonical_iff _).2 ⟨h1, h2, Mem.clear_wf _ _ _ h3, h4⟩

theorem canonical_vWrite (s : State) (v i : Nat) (bs : List Byte) (h : s.canonical = true) : (s.vWrite v i bs).canonical = true := by
  obtain ⟨h1, h2, h3, h4, h5⟩ := (canonical_iff s).1 h
  exact (canonical_iff _).2 ⟨h1, h2, h3, Mem.write_wf _ _ _ h4, h5⟩

theorem canonical_accWrite (s : State) (a cell : Nat) (vs : List Nat) (h : s.canonical = true) :
    (s.accWrite a cell vs).canonical = true := by
  obtain ⟨h1, h2, h3, h4, h5, h6⟩ := (canonical_iff s).1 h
  exact (canonical_iff _).2 ⟨h1, h2, h3, h4, splice_wf _ _ _ _ h5, h6⟩

/-- Single bits and fields of a register. -/
theorem canonical_setB (s : State) (o i : Nat) (b : Bool) (h : s.canonical = true) : (s.setB o i b).canonical = true :=
  canonical_wr _ _ _ h

theorem canonical_setF (s : State) (o hi lo v : Nat) (h : s.canonical = true) : (s.setF o hi lo v).canonical = true :=
  canonical_wr _ _ _ h

/-- A row of a tile (R171). -/
theorem canonical_tileWrite (s : State) (t r : Nat) (bs : List Byte) (h : s.canonical = true) :
    (s.tileWrite t r bs).canonical = true := by
  unfold State.tileWrite
  have h0 : (if s.tileUsed t then s else s.tileClear t).canonical = true := by
    split
    · exact h
    · exact canonical_tileClear s t h
  obtain ⟨h1, h2, h3, h4⟩ := (canonical_iff _).1 h0
  refine (canonical_same rfl rfl rfl rfl rfl rfl rfl).trans (canonical_setB _ _ _ _ ?_)
  exact (canonical_iff _).2 ⟨h1, h2, Mem.write_wf _ _ _ h3, h4⟩

end Sys2Proof.Machine
end

