-- ==== Sys2Proof/Laws/Core.lean ====
section
/-! SUPPORT. What the wrapper of a core instruction does when the core runs it now (State.ready), and how an instruction ends. -/

namespace Sys2Proof.Machine

theorem undue_nil (s : State) (i : Instr) : s.undue i [] = s := rfl

/-- With no tensor instruction of the core in flight none is outstanding. -/
theorem inFlight_none (s : State) (h : s.noTensor = true) : s.inFlight = false := by
  have none : ∀ {α : Type} (l : List α) (f : α → Option SlotAt), l.all (fun o => (f o).isSome) = true →
      l.filter (fun o => (f o).isNone) = [] := by
    intro α l f h
    rw [List.filter_eq_nil_iff]
    intro x hx
    have := List.all_eq_true.1 h x hx
    cases hfx : f x <;> simp_all
  simp only [State.noTensor, Bool.and_eq_true] at h
  obtain ⟨⟨⟨⟨hm, hv⟩, hj⟩, _⟩, _⟩ := h
  have hd : s.coreDrains = [] := by
    unfold State.coreDrains
    rw [List.filter_eq_nil_iff]
    intro j hjm
    have := List.all_eq_true.1 hj j hjm
    cases hfx : j.at_ <;> simp_all
  simp [State.inFlight, State.coreMx, State.coreVx, hd, none s.tensor.mx (·.slot) hm, none s.tensor.vx (·.slot) hv]

/-- An opcode of no tensor station waits for none. -/
theorem stationBusy_other (s : State) (w : Insn) (h : opcode w < 0x20 ∨ 0x2C < opcode w ∨ opcode w = 0x26 ∨ opcode w = 0x27) :
    s.stationBusy w = false := by
  simp only [State.stationBusy, Bool.or_eq_false_iff, Bool.and_eq_false_iff, decide_eq_false_iff_not]
  omega

/-- A core that is ready for a tensor instruction waits for no station. -/
theorem stationBusy_ready (s : State) (w : Insn) (h : s.readyT = true) : s.stationBusy w = false := by
  simp only [State.readyT, Bool.and_eq_true, Bool.not_eq_true', List.all_cons, List.all_nil] at h
  obtain ⟨⟨⟨⟨_, h1⟩, h2⟩, h3⟩, h4, h5, h6, h7, _⟩ := h
  simp [State.stationBusy, h1, h2, h3, h4, h5, h6, h7]

/-- A core that runs its next instruction now runs the instruction's body, and nothing else. -/
theorem coreStep_ready (s : State) (i : Instr) (w : Insn) (body : State → Ran) (h : s.ready = true)
    (hb : s.tmode = true ∨ s.stationBusy w = false) : s.coreStep i w body = (body s).finish s.core.pc w := by
  simp only [State.ready, Bool.and_eq_true, decide_eq_true_eq, Bool.not_eq_true', Option.isNone_iff_eq_none] at h
  obtain ⟨⟨⟨⟨⟨_, h1⟩, h2⟩, h3⟩, h4⟩, h5⟩ := h
  have hf := inFlight_none s h5
  have hg : s.core.going = false ∧ s.core.younger = [] := by
    simp only [State.noTensor, Bool.and_eq_true, Bool.not_eq_true', List.isEmpty_iff] at h5; exact ⟨h5.2, h5.1.2⟩
  have hs : ({ s with core := { s.core with going := false } } : State) = s := by rw [← hg.1]
  have hst : s.staysBehind w = false := by
    unfold State.staysBehind; rcases hb with hb | hb <;> simp [hb, hf]
  unfold State.coreStep
  dsimp only
  rw [hs, if_neg (by simp [h1]), if_neg (by simp [h2]), if_neg (by simp [hg.2]), hf, if_neg (by simp), h3, h4]
  simp [hst]

/-- The same for the command of an instruction. -/
theorem byCore_ready (s : State) (i : Instr) (w : Insn) (body : State → Ran) (h : s.ready = true)
    (hb : s.tmode = true ∨ s.stationBusy w = false) : s.byCore i w body = (body s).finish s.core.pc w := by
  have ho : s.opening = false := by
    simp only [State.ready, Bool.and_eq_true, Bool.not_eq_true'] at h; exact h.1.1.1.1.1
  have hl : s.inLeg = s := by simp [State.inLeg, ho]
  rw [State.byCore, hl]
  exact coreStep_ready s i w body h hb

/-- A command of a running block in which no leg is about to open is its effect. -/
theorem run_live (s : State) (f : State → State) (h : s.live = true) : s.run f = f s := by
  simp only [State.live, Bool.and_eq_true, decide_eq_true_eq, Bool.not_eq_true'] at h
  simp [State.run, State.up, State.inLeg, h.1, h.2]

@[simp] theorem finish_done (t : State) (pc : Word) (w : Insn) : (Ran.done t).finish pc w = t.retire (pc + 4) := rfl
@[simp] theorem finish_goto (t : State) (p pc : Word) (w : Insn) : (Ran.goto t p).finish pc w = t.retire p := rfl
@[simp] theorem finish_fault (c : Cause) (fa : Word) (t : State) (pc : Word) (w : Insn) :
    (Ran.fault c fa t).finish pc w = t.syncFault c fa pc w := rfl
@[simp] theorem finish_hold (t : State) (pc : Word) (w : Insn) : (Ran.hold t).finish pc w = t := rfl

end Sys2Proof.Machine
end

