-- ==== Sys2Proof/Laws/Entry.lean ====
section
/-! SUPPORT. How an instruction that writes one register ends, and what the entry of a handler leaves. -/

namespace Sys2Proof.Machine

/-- An instruction that writes register r and goes on. -/
theorem result_setG (s : State) (r : BitVec 5) (v : Word) : Result s ((s.setG r.toNat v).retire (s.core.pc + 4)) r.toNat v := by
  refine ⟨fun i => ?_, ?_⟩
  · have := g_setG s i r.toNat v (by omega)
    simpa [State.retire, State.g] using this
  · unfold State.setG State.retire; split <;> rfl

/-- An instruction that writes register r and jumps. -/
theorem resultAt_setG (s : State) (r : BitVec 5) (v p : Word) : ResultAt s ((s.setG r.toNat v).retire p) r.toNat v p := by
  refine ⟨fun i => ?_, ?_⟩
  · have := g_setG s i r.toNat v (by omega)
    simpa [State.retire, State.g] using this
  · unfold State.setG State.retire; split <;> rfl

/-- A core that is ready runs. -/
theorem ready_run {s : State} (h : s.ready = true) : s.core.run = .run := by
  simp only [State.ready, Bool.and_eq_true, decide_eq_true_eq] at h; exact h.1.1.1.1.2

/-- With room at SC_TSB_S the entry to S is made there. -/
theorem enterS_ok (s : State) (e : Event) (h : s.frameSOk) : s.enterS e = s.enterAt 1 1 (s.f SC_TSB_S 55 0) e e.cause 0 0 := by
  obtain ⟨h1, h2, h3⟩ := h
  unfold State.enterS
  simp only
  rw [if_neg (by rw [h3]; simp; omega)]

/-- A frame that lies below SC_TSB_LIMIT_S lies below 2^56. -/
theorem tsb_lt (s : State) (h : s.frameSOk) : s.f SC_TSB_S 55 0 + 512 < 2 ^ 56 := by
  have : s.f SC_TSB_LIMIT_S 55 0 < 2 ^ 56 := fld_lt _ _ _
  have h4 := h.2.1
  rcases Nat.lt_or_ge (s.f SC_TSB_S 55 0 + 512) (2 ^ 56) with h5 | h5
  · exact h5
  · omega

/-- What an entry to S at the address a leaves. -/
theorem enterAtS (s : State) (a : Nat) (e : Event) (ha : a + 512 < 2 ^ 56) :
    Enters s (s.enterAt 1 1 a e e.cause 0 0) 1 a e.cause e.async e.fa e.pc e.insn ∧ (s.enterAt 1 1 a e e.cause 0 0).f SC_TSB_S 55 0 = a + 512 := by
  have hseq : s.f SC_SEQ 29 0 < 2 ^ 30 := fld_lt _ _ _
  refine ⟨⟨?_, ?_, ?_, ?_, ?_, ?_, ?_, ?_, ?_, ?_⟩, ?_⟩
  · simp [State.enterAt, State.priv, State.f, maskReg, orgReg, SC_STATUS, SC_SEQ, SC_MASK_S, SC_ORIGIN_S, SC_TSB_S, fld_setFld_same]
  · simp [State.enterAt, State.f, maskReg, orgReg, SC_STATUS, SC_SEQ, SC_MASK_S, SC_ORIGIN_S, SC_TSB_S, fld_setFld_same]
  · simp [State.enterAt, State.f, maskReg, orgReg, SC_STATUS, SC_SEQ, SC_MASK_S, SC_ORIGIN_S, SC_TSB_S, fld_setFld_same]
  · simp [State.enterAt, State.f, maskReg, orgReg, SC_STATUS, SC_SEQ, SC_MASK_S, SC_ORIGIN_S, SC_TSB_S, fld_setFld_same] at hseq ⊢; omega
  · simp [State.enterAt, State.handler]
  · rfl
  · rfl
  · simp [State.enterAt, State.frame, State.frameOf, State.f]
  · intro o h1 h2 h3 h4 h5; simp_all [State.enterAt, maskReg, orgReg]
  · simp [State.enterAt]
  · simp [State.enterAt, State.f, SC_STATUS, SC_TSB_S, fld_setFld_same]; omega

/-- What an entry to M at the address a leaves. -/
theorem enterAtM (s : State) (a : Nat) (e : Event) :
    Enters s (s.enterAt 2 2 a e e.cause 0 0) 2 a e.cause e.async e.fa e.pc e.insn ∧ (s.enterAt 2 2 a e e.cause 0 0).rd SC_TSB_S = s.rd SC_TSB_S := by
  have hseq : s.f SC_SEQ 29 0 < 2 ^ 30 := fld_lt _ _ _
  refine ⟨⟨?_, ?_, ?_, ?_, ?_, ?_, ?_, ?_, ?_, ?_⟩, ?_⟩
  · simp [State.enterAt, State.priv, State.f, maskReg, orgReg, SC_STATUS, SC_SEQ, SC_MASK_M, SC_ORIGIN_M, fld_setFld_same]
  · simp [State.enterAt, State.f, maskReg, orgReg, SC_STATUS, SC_SEQ, SC_MASK_M, SC_ORIGIN_M, fld_setFld_same]
  · simp [State.enterAt, State.f, maskReg, orgReg, SC_STATUS, SC_SEQ, SC_MASK_M, SC_ORIGIN_M, fld_setFld_same]
  · simp [State.enterAt, State.f, maskReg, orgReg, SC_STATUS, SC_SEQ, SC_MASK_M, SC_ORIGIN_M, fld_setFld_same] at hseq ⊢; omega
  · simp [State.enterAt, State.handler]
  · rfl
  · rfl
  · simp [State.enterAt, State.frame, State.frameOf, State.f]
  · intro o h1 h2 h3 h4 h5; simp_all [State.enterAt, maskReg, orgReg]
  · simp [State.enterAt]
  · simp [State.enterAt, maskReg, orgReg, SC_STATUS, SC_TSB_S, SC_SEQ, SC_MASK_M, SC_ORIGIN_M]

/-- What is entered does not depend on the rest of the core. -/
theorem enters_congr {s s' t : State} {lvl a code : Nat} {async : Bool} {fa pc : Word} {w : Insn} (h : Enters s' t lvl a code async fa pc w)
   (h1 : s'.regs = s.regs) (h2 : s'.core.g = s.core.g) (h3 : s'.core.saves = s.core.saves) (h4 : s'.core.entryS = s.core.entryS)
   (h5 : s'.core.entryM = s.core.entryM) (h6 : { s' with regs := s.regs, core := s.core } = s) : Enters s t lvl a code async fa pc w := by
  obtain ⟨e1, e2, e3, e4, e5, e6, e7, e8, e9, e10⟩ := h
  have hrd : ∀ o, s'.rd o = s.rd o := by intro o; unfold State.rd; rw [h1]
  have hf : ∀ o a b, s'.f o a b = s.f o a b := by intro o a b; unfold State.f; rw [hrd]
  have hg : s'.g = s.g := by funext i; simp [State.g, h2]
  refine ⟨e1, e2, by rw [e3, hf], by rw [e4, hf], by rw [e5]; simp [State.handler, h4, h5], e6, by rw [e7, h2], ?_, fun o a b c d e => by rw [e9 o a b c d e, hrd], ?_⟩
  · rw [e8, h3]; simp [State.frameOf, State.scStatus, hrd, hf, hg, h3]
  · rw [← h6, ← e10]

end Sys2Proof.Machine
end

