-- ==== Sys2Proof/Tests/Slice0.lean ====
section
/-! SUPPORT. The model's own tests: an ill-formed term for each check of WellFormed, one-step tests on examples of the spec, and for
each statement with hypotheses (clause by clause) a state and operands that meet them. A name test_<Statement>_<clause> says whose
hypotheses it meets. -/

namespace Sys2Proof.Tests

open Sys2Proof.Machine

set_option Elab.async false

/-! ## Small states -/

/-- The block runs, and the core runs at M from address 0. -/
def base : State := { State.reset with phase := .run, core := { Core.reset with run := .run } }
def regs (s : State) (l : List (Nat × Word)) : State := l.foldl (fun u p => u.wr p.1 p.2) s
def gprs (s : State) (l : List (Nat × Word)) : State := l.foldl (fun u p => { u with core := { u.core with g := u.core.g.setIfInBounds p.1 p.2 } }) s
/-- Numbers (offset, bytes, value) in the Yard. -/
def yard (s : State) (l : List (Nat × Nat × Nat)) : State :=
  l.foldl (fun u p => { u with yard := { u.yard with mem := u.yard.mem.write p.1 (toBytes p.2.1 p.2.2) } }) s
def tags (s : State) (l : List Nat) : State := { s with yard := { s.yard with full := l } }
/-- The physical address of the own Yard. -/
def yb : Nat := 0x100000000000
def none_ : Outside := ⟨[], []⟩
/-- Groups 0 to 3 to the core; at U, with room for frames of S in group 0. -/
def coreY : State := regs base ((List.range 4).map (fun g => (YD_OWNER g, 0)))
def atU : State := regs coreY [(SC_STATUS, 0), (SC_TSB_BASE_S, BitVec.ofNat 64 yb), (SC_TSB_S, BitVec.ofNat 64 yb),
  (SC_TSB_LIMIT_S, BitVec.ofNat 64 (yb + 512)), (SC_TSB_M, BitVec.ofNat 64 (yb + 0x2000))]
/-- Predicates of the answer. -/
def next (c : Instr) (s : State) (p : State → Bool) : Bool := match exec c s with | .next t => p t | _ => false

/-! ## WellFormed refuses -/

theorem test_wf_opcode : (Instr.tmma (0x29#6 ++ 0#26)).wf = false := by decide
theorem test_wf_move : (Instr.tld (0x2B#6 ++ 1#1 ++ 0#25) none_ none).wf = false := by decide
theorem test_wf_tile : (Instr.tshape (0x2C#6 ++ 1#4 ++ 0#22)).wf = false := by decide
theorem test_wf_vector : (Instr.vadd (0x20#6 ++ 0#20 ++ 1#6)).wf = false := by decide
theorem test_wf_vmem : (Instr.vld (0x23#6 ++ 0#10 ++ 1#2 ++ 0#14) none_).wf = false := by decide
theorem test_wf_dray : (Instr.vsplit (0x24#6 ++ 0#24 ++ 1#2)).wf = false := by decide
theorem test_wf_sync : (Instr.yput (0x30#6 ++ 1#2 ++ 0#24) none_).wf = false := by decide
theorem test_wf_system : (Instr.svc (0x38#6 ++ 0#4 ++ 0#22)).wf = false := by decide
theorem test_wf_place : (Instr.gdNop ⟨0, 0, 63⟩ 0).wf = false := by decide
theorem test_wf_issue : (Instr.mxIssue ⟨0, 0, 64⟩ (1#33 ++ 0#63)).wf = false := by decide
theorem test_wf_pair : (Instr.ysTake ⟨0, 0, 64⟩ 1).wf = false := by decide
theorem test_wf_word : (Instr.ysFill ⟨0, 0, 64⟩ 4).wf = false := by decide
theorem test_wf_counter : (Instr.ysInc ⟨0, 0, 64⟩ 0x1000).wf = false := by decide
theorem test_wf_stage : (Instr.wbStage ⟨0, 0, 64⟩ 0x10).wf = false := by decide
theorem test_wf_send : (Instr.rlSend ⟨0, 0, 64⟩ 8).wf = false := by decide
theorem test_wf_inspect : (Instr.gdInspect ⟨0, 0, 64⟩ 0x8000000).wf = false := by decide
theorem test_wf_packet : (Instr.identify 2).wf = false := by decide +kernel
theorem test_wf_amount : (Instr.shiftBitfield .insert 1 2 (.imm 62 3)).wf = false := by decide
theorem test_wf_port : (Instr.laneDown 9).wf = false := by decide
theorem test_wf_unit : (Instr.fenceStrike 0x144).wf = false := by decide
theorem test_wf_waiter : (Instr.wakeArrival 0x48).wf = false := by decide
theorem test_wf_holds : (Instr.vadd (0x20#6 ++ 0#26)).wf = true ∧ (Instr.fenceStrike 0x143).wf = true := by decide
theorem test_wf_channel : (Instr.atsTimeout 56).wf = false ∧ (Instr.fabricTimeout (.wbRead 56 0)).wf = false := by decide
theorem test_wf_branch : (Instr.conditionalBranch .eq 1 2 2).wf = false ∧ (Instr.jumpAndLink 1 2).wf = false := by decide
theorem test_wf_space : (Instr.mfs (0x39#6 ++ 1#1 ++ 0#25)).wf = false ∧ (Instr.mts (0x39#6 ++ 0#26) none_).wf = false := by decide
theorem test_wf_cache : (Instr.cmo (0x3B#6 ++ 0#26) none_).wf = false ∧ (Instr.spinv (0x3A#6 ++ 0#26) none_).wf = false := by decide
theorem test_wf_requests : (Instr.dbHaltreq 1).wf = false ∧ (Instr.dbResume 1).wf = false ∧ (Instr.hwreset .host 1).wf = false ∧
    (Instr.cmCtrlEnable 2).wf = false := by decide
theorem test_wf_access : (Instr.registerWrite .host 4 true 0).wf = false ∧ (Instr.registerWrite .host 2 false 0).wf = false := by decide
theorem test_wf_dump : (Instr.syncDumpDone (some 0x25040)).wf = false := by decide
theorem test_wf_operands : (Instr.wbFire ⟨0, 0, 64⟩ 16).wf = false ∧ (Instr.mlPublish ⟨0, 0, 64⟩ 16).wf = false ∧
    (Instr.gdNop ⟨0, 0, 64⟩ 1).wf = false ∧ (Instr.endLane ⟨0, 0, 64⟩ 1).wf = false := by decide

/-! ## The scalar core -/

theorem test_idle : (match step State.reset with | .next t => decide (t.time = 1) | _ => false) = true := by decide +kernel

theorem test_ScalarResults : base.ready = true := by decide +kernel
theorem test_ScalarResults_shift : (gprs base [(2, 63)]).ready = true ∧ ((gprs base [(2, 63)]).g 2).toNat < 64 := by decide +kernel
theorem test_ScalarResults_field : 0 < (2#6).toNat ∧ (62#6).toNat + (2#6).toNat ≤ 64 := by decide
theorem test_slt_signed : next (.integerRegReg .slt 1 2 3) (gprs base [(2, BitVec.allOnes 64), (3, 1)]) (fun t => t.g 1 == 1) = true := by
  decide +kernel
theorem test_g0_stays_zero : next (.integerRegImm .add 0 2 5) base (fun t => t.g 0 == 0 && t.core.pc == 4) = true := by decide +kernel
theorem test_insert_top : next (.shiftBitfield .insert 1 2 (.imm 62 2)) (gprs base [(1, 1), (2, 3)])
    (fun t => t.g 1 == 0xC000000000000001) = true := by decide +kernel

def divs : State := gprs base [(2, BitVec.ofInt 64 (-2 ^ 63)), (3, BitVec.allOnes 64)]
theorem test_Divide : divs.ready = true ∧ divs.g 3 ≠ 0 ∧ divs.g 2 = BitVec.ofInt 64 (-2 ^ 63) ∧ divs.g 3 = BitVec.allOnes 64 := by
  decide +kernel
theorem test_Divide_by_zero : divs.g 4 = 0 := by decide +kernel
/-- R325: REM of −2^63 by −1 gives 0. -/
theorem test_rem_overflow : next (.rem 1 2 3) divs (fun t => t.g 1 == 0) = true := by decide +kernel
theorem test_Branches : base.ready = true := by decide +kernel
theorem test_ScalarFloat : base.ready = true ∧ FpOp.neg ≠ .abs := by decide +kernel
/-- R210: 1 + 2 = 3 in binary32, with no flag. -/
theorem test_fadd : f32.fadd 0x3F800000 0x40000000 = (0x40400000, 0) := by decide +kernel

def loadS : State := gprs (yard coreY [(0x10, 8, 0xFFEEDDCCBBAA9988)]) [(2, BitVec.ofNat 64 (yb + 0x10)), (3, BitVec.ofNat 64 (yb + 0x11))]
theorem test_YardLoad : loadS.ready = true ∧ loadS.coreYard (loadS.g 2 + 7) 0x17 1 ∧ loadS.coreYard (loadS.g 2) 0x10 8 ∧
    loadS.badIn 0x10 8 = [] ∧ loadS.weakIn 0x10 8 = [] ∧ loadS.badIn 0x17 1 = [] ∧ loadS.weakIn 0x17 1 = [] ∧
    (loadS.g 3 + 0).toNat % 2 ≠ 0 := by
  unfold State.coreYard; decide +kernel
theorem test_YardStore : coreY.ready = true ∧ (gprs coreY [(2, BitVec.ofNat 64 (yb + 0x3F))]).coreYard
    ((gprs coreY [(2, BitVec.ofNat 64 (yb + 0x3F))]).g 2 + 0) 0x3F 1 := by unfold State.coreYard; decide +kernel
theorem test_load_signed_byte : next (.loadMem 0 true 1 2 7 none_) loadS (fun t => t.g 1 == BitVec.allOnes 64) = true := by decide +kernel
def drainS : State := { coreY with core := { coreY.core with sb := [⟨coreY.yardPA 0x40 / 64, .yard, [(3, 7), (4, 8)]⟩] } }
theorem test_YardStore_drain : drainS.opening = false ∧ drainS.core.sb = [⟨coreY.yardPA 0x40 / 64, .yard, [(3, 7), (4, 8)]⟩] ∧
    coreY.yardPA 0x40 / 64 * 64 = drainS.yardPA 0x40 ∧ 0x40 + 64 ≤ yardBytes ∧ drainS.owned coreOnly 0x40 64 = true ∧
    (∀ p ∈ [((3 : Nat), (7 : Byte)), (4, 8)], p.1 < 64) ∧ ([((3 : Nat), (7 : Byte)), (4, 8)].map (·.1)).Nodup := by decide +kernel

theorem test_FaultEntry : atU.ready = true ∧ atU.priv = 0 ∧ atU.b SC_STATUS 2 = false ∧ atU.frameSOk ∧
    atU.stationBusy (0x30#6 ++ 0#26) = false ∧ opcodeAssigned (0x30#6 ++ 0#26) = true ∧ Cause.align ≠ .service := by
  unfold State.frameSOk; decide +kernel
theorem test_FaultEntry_opcode : atU.stationBusy (0x06#6 ++ 0#26) = false ∧ opcode (0x06#6 ++ 0#26) = 0x06 ∧
    atU.stationBusy (0x3F#6 ++ 0#26) = false ∧ opcode (0x3F#6 ++ 0#26) = 0x3F := by decide +kernel
theorem test_FaultEntry_twice : (regs atU [(SC_STATUS, 4)]).ready = true ∧ (regs atU [(SC_STATUS, 4)]).b SC_STATUS 2 = true ∧
    (regs atU [(SC_STATUS, 4)]).stationBusy 0 = false ∧ opcodeAssigned 0 = true := by decide +kernel
def irqS : State := regs atU [(YD_ECC_UE, 0x8000000000000000), (YD_IRQ, 0x50), (SC_MASK_S, 4)]
def irqM : State := regs atU [(SC_IPEND, 0x20000000000), (SC_MASK_M, 15)]
theorem test_InterruptEntry : irqS.live = true ∧ irqS.core.run = .run ∧ irqS.core.wait = none ∧ irqS.noTensor = true ∧
    irqS.yard.room = [] ∧ irqS.yard.wakes = [] ∧ irqS.yard.ungating = [] ∧
    irqS.yard.tail = [] ∧ irqS.priv = 0 ∧ irqS.chosenIrq = some 0x2B ∧ irqS.irqToM 0x2B = false ∧ irqS.frameSOk := by
  unfold State.frameSOk; decide +kernel
theorem test_InterruptEntry_M : irqM.live = true ∧ irqM.core.run = .run ∧ irqM.core.wait = none ∧ irqM.noTensor = true ∧
    irqM.yard.room = [] ∧ irqM.yard.wakes = [] ∧ irqM.yard.ungating = [] ∧ irqM.yard.tail = [] ∧ irqM.priv = 0 ∧
    irqM.chosenIrq = some 0x29 ∧ irqM.irqToM 0x29 = true ∧ irqM.frameOk (irqM.f SC_TSB_M 55 0) = true := by decide +kernel
/-- Two entries of one line wait, the younger over the older (R328, R344). -/
def fenceS : State := { coreY with core := { coreY.core with
  sb := [⟨coreY.yardPA 0x40 / 64, .yard, [(3, 7), (4, 8)]⟩, ⟨coreY.yardPA 0x40 / 64, .yard, [(4, 9)]⟩] } }
theorem test_Eligible : base.irqToM 0x2B = false ∧ base.priv = 2 := by decide +kernel
/-- R352: at SC_MASK_S equal to the level the interrupt waits. -/
theorem test_mask_equal_waits : (regs irqS [(SC_MASK_S, 5)]).chosenIrq = none := by decide +kernel
theorem test_FenceFlushWait : fenceS.ready = true ∧ fenceS.core.saves = [] ∧
    ((((List.range fenceS.core.sb.length).foldl (fun (u : State) _ => u.drainHead none_) fenceS).finishSaves none_).eligible 0x19 = false) ∧
    (∀ e ∈ fenceS.core.sb, e.cls = .yard ∧ e.line * 64 = fenceS.yardPA 0x40 ∧ 0x40 + 64 ≤ yardBytes ∧
      fenceS.owned coreOnly 0x40 64 = true ∧ ∀ p ∈ e.bytes, p.1 < 64) := by decide +kernel
/-- R344: a FENCE leaves the younger store's byte in the Yard. -/
theorem test_fence_order : next (.fence 0xE0C00000 none_) fenceS (fun t => t.yard.mem.read 0x43 2 == [7, 9] && t.core.sb == []) = true := by
  decide +kernel
def atS : State := regs base [(SC_STATUS, 1)]
theorem test_SystemRegisters : atS.ready = true ∧ 0x70000 + 8 * (2#11).toNat = SC_MASK_S ∧ 1 ≤ atS.priv ∧ atS.core.sb = [] ∧
    atS.held SC_MASK_S = 0 ∧ atS.held SC_TCMP = 0 ∧ atS.held SC_TSB_S = 0 ∧ atS.held SC_DOORBELL = 0 ∧
    0x70000 + 8 * (7#11).toNat = SC_TCMP ∧ 0x70000 + 8 * (4#11).toNat = SC_TSB_S := by decide +kernel
theorem test_SystemRegisters_U : atU.ready = true ∧ atU.priv = 0 := by decide +kernel

/-- Line 0x305 stands in way 3 of the three caches, dirty in the L2. -/
def lineS : State := { base with core := { base.core with
  l1d := [(0x305, 3, ofLine [])], l1i := [(0x305, 3, ofLine [])], l2 := [⟨0x305, 3, 0, true, ofLine [], .ok⟩],
  g := (base.core.g.setIfInBounds 1 (BitVec.ofNat 64 0x30005)).setIfInBounds 2 (BitVec.ofNat 64 0x30305) } }
theorem test_Caches : lineS.ready = true ∧ 1 ≤ lineS.priv ∧ lineS.core.saves = [] ∧ lineS.core.sb = [] ∧
    lineS.core.l1d = [(0x305, 3, ofLine [])] ∧ lineS.core.l1i = [(0x305, 3, ofLine [])] ∧ 3 < 4 ∧ fld (lineS.g 1) 10 0 = 0x305 % 256 ∧
    fld (lineS.g 1) 19 16 = 3 ∧ atU.ready = true ∧ atU.priv = 0 ∧ fld (atU.g 1) 10 0 ≤ 255 ∧ fld (atU.g 1) 19 16 ≤ 3 := by decide +kernel
theorem test_Caches_l2 : lineS.core.l2 = [⟨0x305, 3, 0, true, ofLine [], .ok⟩] ∧ 0x305 < 2048 ∧ fld (lineS.g 2) 10 0 = 0x305 ∧
    fld (lineS.g 2) 19 16 = 3 ∧ none_.wrBad (0x305 * 64) 64 = none := by decide +kernel
/-- Set 0x48D holds 16 clean lines. -/
def fullS : State := { base with core := { base.core with l2 := (List.range 16).map (fun w => ⟨0x48D, w, w + 1, false, ofLine [], .ok⟩) } }
def lineO : Outside := ⟨(List.range 64).map (fun i => (0x12340 + i, BitVec.ofNat 8 i)), []⟩
theorem test_Caches_fill : base.opening = false ∧ base.core.l2 = [] ∧ (0x12345 : PAddr).toNat / 64 % 2048 = 0x48D ∧
    lineO.get ((0x12345 : PAddr).toNat / 64 * 64) 64 = some ((List.range 64).map (BitVec.ofNat 8)) ∧
    (∀ x ∈ fullS.core.l2, x.set = 0x48D → x.tag ≠ (0x12345 : PAddr).toNat / 64 / 2048) ∧
    (∀ w < 16, ∃ x ∈ fullS.core.l2, x.set = 0x48D ∧ x.way = w) ∧ fullS.core.lfsr = 1 ∧ (∀ x ∈ fullS.core.l2, x.dirty = false) := by
  refine ⟨by decide +kernel, by decide +kernel, by decide +kernel, by decide +kernel, by decide +kernel, fun w h => ?_, by decide +kernel, by decide +kernel⟩
  exact ⟨⟨0x48D, w, w + 1, false, ofLine [], .ok⟩, List.mem_map.mpr ⟨w, List.mem_range.mpr h, rfl⟩, rfl, rfl⟩
/-- R331: the LFSR from 0x0001 over five allocations; bits [3:0] of the first four states are 2, 4, 8, 0. -/
theorem test_lfsr : next (.l2Fill 0x12340 false lineO) base (fun t => t.core.lfsr == 2) = true := by decide +kernel

def framed : State := { regs coreY [(SC_STATUS, 1), (SC_TSB_BASE_S, BitVec.ofNat 64 yb), (SC_TSB_S, BitVec.ofNat 64 (yb + 512)), (SC_ORIGIN_S, 9)] with
  yard := (yard coreY [(0, 8, 0x400), (0x28, 4, 9)]).yard }
theorem test_Frames_saved : ({ framed with core := { framed.core with saves := [(framed.yardPA 0, List.replicate 64 5)] } } : State).core.saves =
      [(framed.yardPA 0, List.replicate 64 5)] ∧ framed.opening = false ∧ (List.replicate 64 (5 : Word)).length = 64 ∧ 0 % 64 = 0 ∧
    0 + 512 ≤ yardBytes ∧ (∀ k < 8, framed.owned coreOnly (64 * k) 64 = true) := by decide +kernel
theorem test_Frames_return : framed.ready = true ∧ framed.priv = 1 ∧ framed.core.sb = [] ∧ framed.core.saves = [] ∧
    framed.f SC_TSB_S 55 0 = framed.yardPA 0 + 512 ∧ framed.f SC_TSB_BASE_S 55 0 ≤ framed.yardPA 0 ∧
    (∀ k < 8, framed.owned coreOnly (0 + 64 * k) 64 = true) ∧ framed.yard.bad = [] ∧ framed.yard.weak = [] ∧ framed.held TF_START = 0 ∧
    framed.yard.mem.num (0 + 8 * 1) 8 % 4 ≤ 1 ∧
    framed.yard.mem.num (0 + 8 * 5) 8 % 2 ^ 32 = framed.f SC_ORIGIN_S 31 0 := by decide +kernel

def walkS : State := regs (yard coreY [(0, 8, 0x50000), (8, 8, 1), (16, 8, 0x50000), (24, 8, 2 ^ 63 + 0x180)])
  [(SP_CTRL, 1), (SP_TABLE, BitVec.ofNat 64 yb), (SP_TABLEN, 1), (SP_REFILL, 31)]
theorem test_SpanRegisters : walkS.ready = true ∧ walkS.b SP_CTRL 0 = true ∧ (∀ i < 32, walkS.b (SP_SPAN_W3 i) 63 = false) ∧
    walkS.f SP_TABLE 55 0 = walkS.yardPA 0 ∧ walkS.f SP_TABLEN 12 0 = 1 ∧ walkS.owned coreOnly 0 32 = true ∧ walkS.yard.bad = [] ∧
    walkS.yard.weak = [] ∧ 16 ≤ walkS.f SP_REFILL 4 0 ∧
    (let W := fun (i : Nat) => (BitVec.ofNat 64 (walkS.yard.mem.num (0 + 8 * i) 8) : Word)
     walkS.malformed [W 0, W 1, W 2, W 3] = false ∧ (W 3).getLsbD 63 = true ∧ fld (W 0) 55 16 * 65536 ≤ 0x5FFFF ∧
     0x5FFFF < fld (W 0) 55 16 * 65536 + fld (W 1) 39 0 * 65536) := by decide +kernel
theorem test_SpanRegisters_invalidate : atS.ready = true ∧ 1 ≤ atS.priv ∧ atS.core.sb = [] ∧ atU.ready = true ∧ atU.priv = 0 := by decide +kernel

/-! ## Tags, counters, mailboxes, the fabric -/

/-- g2 names the word at offset 0x20, which holds 0x55. -/
def tagS : State := gprs (yard base [(0x20, 8, 0x55)]) [(2, BitVec.ofNat 64 (yb + 0x20)), (3, 0x99)]
theorem tagSite_of (s : State) (h : s.b SP_CTRL 0 = false ∧ s.core.sb = [] ∧ s.portFree (bankOf 0x20) = true ∧ s.yard.bad = [] ∧
    s.yard.weak = [] ∧ (s.g 2).toNat = s.yardPA 0x20 ∧ 0x20 % 8 = 0 ∧ 0x20 < yardBytes ∧ s.owner 0x20 < 4) :
    s.tagSite (s.g 2) 0x20 := h
theorem test_TagInstructions : tagS.ready = true ∧ tagS.tagSite (tagS.g 2) 0x20 ∧ inSet 0x20 tagS.yard.full = false :=
  ⟨by decide +kernel, tagSite_of _ (by decide +kernel), by decide +kernel⟩
theorem test_TagInstructions_full : (tags tagS [0x20]).ready = true ∧ (tags tagS [0x20]).tagSite ((tags tagS [0x20]).g 2) 0x20 ∧
    inSet 0x20 (tags tagS [0x20]).yard.full = true ∧ 1 ≤ (tags tagS [0x20]).priv :=
  ⟨by decide +kernel, tagSite_of _ (by decide +kernel), by decide +kernel, by decide +kernel⟩
theorem test_TagInstructions_U : (regs tagS [(SC_STATUS, 0)]).ready = true ∧ (regs tagS [(SC_STATUS, 0)]).priv = 0 ∧
    (regs tagS [(SC_STATUS, 0)]).tagSite ((regs tagS [(SC_STATUS, 0)]).g 2) 0x20 :=
  ⟨by decide +kernel, by decide +kernel, tagSite_of _ (by decide +kernel)⟩
theorem test_ytake : next (.ytake (0x30#6 ++ 1#2 ++ 0#14 ++ 3#5 ++ 2#5) none_) (tags tagS [0x20])
    (fun t => t.g 3 == 0x55 && t.yard.full == []) = true := by decide +kernel
def ctrS : State := gprs { base with yard := { base.yard with ctrs := [(1024, 0xFFFFFFFE)] } } [(4, 1)]
theorem test_Counters : ctrS.ready = true ∧ ctrS.core.sb = [] ∧ 1 ≤ ctrS.priv ∧ (ctrS.g 4).toNat % 2 ^ 32 ≤ ctrS.ctr 1024 ∧
    ctrS.ctr 1023 < (ctrS.g 4).toNat % 2 ^ 32 := by decide +kernel
theorem test_Counters_U : (regs ctrS [(SC_STATUS, 0)]).ready = true ∧ (regs ctrS [(SC_STATUS, 0)]).priv = 0 ∧ 1024 ≤ (1024#12).toNat := by
  decide +kernel
/-- R242: a counter reaches its greatest value without a flag. -/
theorem test_yinc_to_top : next (.yinc (0x32#6 ++ 0#4 ++ 1024#12 ++ 5#5 ++ 4#5) none_) ctrS
    (fun t => t.ctr 1024 == 0xFFFFFFFF && t.g 5 == 0xFFFFFFFE && !t.b YD_CTR_FLAGS 1) = true := by decide +kernel
def boxS : State := gprs (regs base [(CM_FEAT 0, 0x7FF)]) [(2, 0xFF), (3, 0x777)]
def boxF : State := { boxS with yard := { boxS.yard with mboxFull := [0xFF] } }
theorem test_Mailboxes : boxS.ready = true ∧ boxS.core.sb = [] ∧ boxS.feature featMailbox = true ∧
    (boxS.g 2).toNat / 2 ^ 8 % 2 ^ 4 = boxS.pins.blk.toNat ∧ (boxS.g 2).toNat / 2 ^ 12 % 2 ^ 6 = boxS.pins.pkg.toNat ∧
    boxS.mboxFull 255 = false ∧ boxF.ready = true ∧ boxF.mboxFull 255 = true := by decide +kernel
def waits (w : Insn) (f : WaitFor) (b p : Bool) (wk ug : List Nat) : State :=
  { tags tagS [0x20] with core := { tagS.core with run := .wait, wait := some ⟨w, f, b, p⟩ },
                          yard := { (tags tagS [0x20]).yard with wakes := wk, ungating := ug } }
theorem test_WaitAndResend : tagS.ready = true ∧ tagS.tagSite (tagS.g 2) 0x20 ∧ inSet 0x20 tagS.yard.full = false ∧ tagS.yard.room = [] ∧
    (regs tagS [(CM_FEAT 0, 0x7FF)]).feature featBerths = true ∧ 1 ≤ (regs tagS [(CM_FEAT 0, 0x7FF)]).priv :=
  ⟨by decide +kernel, tagSite_of _ (by decide +kernel), by decide +kernel, by decide +kernel, by decide +kernel, by decide +kernel⟩
theorem test_WaitAndResend_again (w : Insn) (b : Bool) : (waits w (.local (.word 0x20)) b false [0] [0]).core.run = .wait ∧
    (waits w (.local (.word 0x20)) b false [0] [0]).core.wait = some ⟨w, .local (.word 0x20), b, false⟩ ∧
    inSet 0 (waits w (.local (.word 0x20)) b false [0] [0]).yard.wakes = true ∧
    inSet 0 (waits w (.local (.word 0x20)) b false [0] [0]).yard.ungating = true :=
  ⟨rfl, rfl, rfl, rfl⟩
theorem test_WaitAndResend_word : let s := waits 0 (.local (.word 0x20)) true true [] [0]
    s.opening = false ∧ s.core.run = .wait ∧ s.owner 0x20 < 4 ∧ s.portFree (bankOf 0x20) = true ∧ s.yard.bad = [] ∧ s.yard.weak = [] ∧
    inSet 0x20 s.yard.full = true ∧ s.core.wait = some ⟨0, .local (.word 0x20), true, true⟩ ∧ inSet 0 s.yard.ungating = true := by decide +kernel
theorem test_WaitAndResend_queued : let s : State := { waits 0 (.queued 0x20) false false [] [] with
      yard := { (waits 0 (.queued 0x20) false false [] []).yard with tail := [((7#9).toNat, .core)] } }
    s.opening = false ∧ s.core.run = .wait ∧ s.owner 0x20 < 4 ∧ s.portFree (bankOf 0x20) = true ∧ s.yard.bad = [] ∧ s.yard.weak = [] ∧
    inSet 0x20 s.yard.full = true ∧ s.core.wait = some ⟨0, .queued 0x20, false, false⟩ ∧ s.yard.tail = [((7#9).toNat, .core)] := by
  decide +kernel
def fabReq (y : Nat) (op : FabOp) : FabReq := ⟨BitVec.ofNat 56 (yb + y), op, false, true⟩
def rspO : Outside := ⟨(List.range 8).map (fun i => (0x999 + i, 5)), []⟩
theorem test_WaitAndResend_remote : (waits 0 (.remote 0x999) true false [] []).core.wait = some ⟨0, .remote 0x999, true, false⟩ ∧
    rspO.wrErr = [] ∧ rspO.get 0x999 8 = some (List.replicate 8 5) := by decide +kernel
theorem test_FabricRequests : tagS.live = true ∧ tagS.yard.bad = [] ∧ tagS.yard.weak = [] ∧
    (fabReq 0x38 (.read 8)).addr.toNat = tagS.yardPA 0x38 ∧ (fabReq 0x38 (.read 8)).op = .read 8 ∧ tagS.lineWaits (fabReq 0x38 (.read 8)) = none ∧
    tagS.lineWaits (fabReq 0x38 (.write [1, 2, 3, 4, 5, 6, 7, 8] false)) = none ∧ 0x38 % 64 + 8 ≤ 64 ∧ tagS.owner 0x38 = 1 ∧
    coreY.owner 0x38 ≠ 1 ∧ coreY.live = true ∧ coreY.lineWaits (fabReq 0x38 (.read 8)) = none := by decide +kernel
def queued : State := { tagS with yard := { tagS.yard with tail := [(7, .fab (fabReq 0x20 .ypeek))] } }
theorem test_FabricRequests_queued : queued.live = true ∧ queued.yard.bad = [] ∧ queued.yard.weak = [] ∧
    (fabReq 0x20 .ypeek).addr.toNat = queued.yardPA 0x20 ∧ 0x20 % 8 = 0 ∧ queued.owner 0x20 < 4 ∧
    queued.yard.tail = [((7#9).toNat, .fab (fabReq 0x20 .ypeek))] := by decide +kernel

/-! ## The matrix array and the tile file -/

def mxS : State := gprs (regs coreY [(CM_FEAT 0, 0x7FF)]) [(5, 0xBE000)]
theorem test_MatrixAccepted : mxS.readyT = true ∧ mxS.tmode = false ∧ mxS.tileW 2 = mxS.tileW 1 ∧
    mxS.errStore 15 = false ∧ mxS.accConflict 15 true = false ∧ mxS.accConflict 15 false = false ∧ mxS.feature featDray = true := by
  decide +kernel
theorem test_MatrixAccepted_drain : let s := regs mxS [(TF_SHAPE 5, 0x302)]
    s.readyT = true ∧ s.tmode = false ∧ s.errStore 2 = false ∧ s.b TF_START 63 = false ∧ s.tileW 5 = 256 ∧ s.accUsed 2 = false := by
  decide +kernel
theorem test_MatrixAccepted_vector : mxS.feature featExpress = true ∧ 1 ≤ mxS.priv ∧ (mxS.g 5).toNat % 64 = 0 ∧
    (mxS.g 4).toNat % 64 = 0 ∧ (mxS.g 4).toNat / 256 % 64 = 0 ∧ (∀ g ≤ 3, mxS.f (YD_OWNER g) 2 0 = 0) ∧ 4 ≤ mxS.tileRows 1 ∧ (mxS.g 5).toNat + 8 * mxS.tileW 1 ≤ 0xC0000 ∧
    (∀ a ∈ (List.range 4).map (fun v => 12 + v * (if mxS.sumMode 12 = 1 then 2 else 1)), a ≤ 15 ∧ mxS.sumMode a = mxS.sumMode 12 ∧
      mxS.errStore a = false ∧ mxS.accConflict a true = false) := by decide +kernel
def intOp : MxOp := { w := 0, pc := 0, due := 0, slot := none, sums := [(2, [(0, .fin 5 0), (4095, .fin (2 ^ 31) 0)])], int := true,
                      clear := false, slice := false, flushed := false }
def intS : State := { base with tensor := { base.tensor with mx := [intOp] } }
theorem test_IntegerCommit : let u := intS.claim .mxCommit
    intS.opening = false ∧ intOp.due ≤ intS.time.toNat ∧ intS.tensor.mx = [intOp] ∧ u.tensor.mx = [intOp] ∧ intOp.slot = none ∧
    intOp.int = true ∧ intOp.slice = false ∧ intOp.flushed = false ∧ 2 < 16 ∧ u.sumMode 2 = 0 ∧ u.errStore 2 = false ∧
    u.canonical = true := by
  decide +kernel
def drainJob : Job := { at_ := none, pc := 0, st := 0, w := 0x2A#6 ++ 2#4 ++ 5#4 ++ 3#3 ++ 0#15, addr := 0, aux := 0, t := 0, due := 0,
                        h := 4, wd := 256, h2 := 0, conv := 0, vl := 0, row := 0, todo := [], buf := [], rows := [], mask := [], nan := false }
theorem test_IntegerCommit_cells : let z : Nat → Int := fun k => if k = 0 then 5 else if k = 4095 then 2 ^ 31 else 0
    (∀ k v, (k, v) ∈ [((0 : Nat), PVal.fin 5 0), (4095, .fin (2 ^ 31) 0)] → k < 4096 ∧ v = .fin (z k) 0) ∧
    (∀ k, k ∉ [((0 : Nat), PVal.fin 5 0), (4095, .fin (2 ^ 31) 0)].map (·.1) → z k = 0) := by
  constructor
  · intro k v h
    simp only [List.mem_cons, Prod.mk.injEq, List.not_mem_nil, or_false] at h
    obtain ⟨rfl, rfl⟩ | ⟨rfl, rfl⟩ := h <;> simp
  · intro k h
    simp only [List.map, List.mem_cons, List.not_mem_nil, or_false, not_or] at h
    simp [h.1, h.2]
/-- R104: the sum 2^31 saturates. -/
theorem test_commit_saturates : next .mxCommit intS (fun t => t.accCell 2 4095 == 0x7FFFFFFF && t.b MX_SATFLAGS 2) = true := by
  decide +kernel
def drainT : State := regs base [(TF_SHAPE 5, 0x302)]
theorem test_DrainInt32 : drainJob.w = 0x2A#6 ++ 2#4 ++ 5#4 ++ 3#3 ++ 0#15 ∧ drainJob.rows = [] ∧ drainJob.h ≤ 64 ∧
    drainJob.row + 16 * 0 < drainJob.h := by decide
def drainA : State := regs { base with tensor := { base.tensor with accs := [(2 * 4096 + 65, 7)] } } [(MX_ACCINUSE, 4), (MX_ACCTYPE, 4)]
/-- R104, R129: accumulator 2, INT32 and in use, is read at the group's read and written at its write. -/
theorem test_drain_reads_early : (match drainA.micro drainJob (.groupRead 0) with
    | (some j, _) => (base.micro j (.groupWrite 0)).2.tensor.tiles == [(5 * 65536 + 1024 + 4, 7)]
    | _ => false) = true := by decide +kernel
theorem test_DrainInt32_used : let s := regs drainT [(MX_ACCINUSE, 4), (MX_ACCTYPE, 4)]
    s.ready = true ∧ s.accUsed 2 = true ∧ s.accInt 2 = true ∧ s.tileW 5 = 256 := by decide +kernel
theorem test_TileManagement : base.ready = true ∧ base.readyT = true ∧ base.tmode = false := by decide +kernel
theorem test_TileManagement_timetable : (regs base [(HN_CTRL, 2)]).ready = true ∧ (regs base [(HN_CTRL, 2)]).tmode = true := by decide +kernel
/-- R192: the greatest shape. -/
theorem test_tshape : next (.tshape (0x2C#6 ++ 0#4 ++ 5#4 ++ 63#6 ++ 15#4 ++ 0#8)) base
    (fun t => t.tileRows 5 == 64 && t.tileW 5 == 1024) = true := by decide +kernel
def moveS : State := gprs (regs (yard coreY [(8, 8, 0x1122334455667788)]) [(TF_SHAPE 3, 1)]) [(4, 72), (5, BitVec.ofNat 64 (yb + 8))]
theorem test_TileMoves : moveS.readyT = true ∧ moveS.tmode = false ∧ moveS.b SP_CTRL 0 = false ∧ moveS.core.sb = [] ∧ moveS.yard.bad = [] ∧
    moveS.yard.weak = [] ∧ moveS.b TF_START 63 = false ∧ (moveS.g 5).toNat % 8 = 0 ∧ (moveS.g 4).toNat % 8 = 0 ∧ moveS.f (TF_CONV 0) 7 4 = 0 ∧
    moveS.f (TF_CONV 0) 11 8 = 0 ∧ moveS.tileRows 3 = 2 ∧
    (∀ r < 2, (moveS.g 5 + BitVec.ofNat 64 r * moveS.g 4).toNat = moveS.yardPA (8 + 72 * r) ∧ 8 + 72 * r + moveS.tileW 3 ≤ yardBytes ∧
      moveS.owned coreOnly (8 + 72 * r) (moveS.tileW 3) = true) := by decide +kernel
theorem test_TileMoves_align : (gprs moveS [(4, 4)]).readyT = true ∧ (gprs moveS [(4, 4)]).tmode = false ∧ ((gprs moveS [(4, 4)]).g 4).toNat % 8 ≠ 0 ∧
    ((gprs moveS [(4, 4)]).g 5).toNat % 8 = 0 ∧ (gprs moveS [(5, 4)]).readyT = true ∧ ((gprs moveS [(5, 4)]).g 5).toNat % 8 ≠ 0 := by
  decide +kernel
/-- R176: INT8 −8 narrows to INT4 8. -/
theorem test_narrow : (convRow ⟨4, 3, true, 0⟩ true false [0xF8, 0x07]).1 = [0x78] := by decide +kernel
def saveS : State := gprs (regs { coreY with tensor := { coreY.tensor with tiles := coreY.tensor.tiles.write (3 * 65536) [1, 2, 3] } }
  [(TF_SHAPE 3, 1), (TF_INUSE, 8)]) [(5, BitVec.ofNat 64 (yb + 64))]
theorem test_SaveWritesArea : saveS.readyT = true ∧ saveS.tmode = false ∧ saveS.b SP_CTRL 0 = false ∧ saveS.core.sb = [] ∧
    (let n := 256 + ((List.range 16).map (fun T => if saveS.tileUsed T then saveS.tileRows T * saveS.tileW T else 0)).sum +
      16384 * ((List.range 16).filter saveS.accUsed).length
     (saveS.g 5).toNat = saveS.yardPA 64 ∧ 64 % 64 = 0 ∧ 64 + n ≤ yardBytes ∧ saveS.owned coreOnly 64 n = true) ∧
    saveS.tileUsed 3 = true ∧ (∀ u < 3, saveS.tileUsed u = false) := by decide +kernel
def restoreS : State := { gprs coreY [(5, BitVec.ofNat 64 (yb + 64))] with yard := { coreY.yard with mem := coreY.yard.mem.write 64 saveS.saveArea } }
theorem test_RestoreUndoesSave : restoreS.readyT = true ∧ restoreS.tmode = false ∧ restoreS.b SP_CTRL 0 = false ∧ restoreS.core.sb = [] ∧
    restoreS.yard.bad = [] ∧ restoreS.yard.weak = [] ∧ restoreS.canonical = true ∧ (restoreS.g 5).toNat = restoreS.yardPA 64 ∧
    64 + saveS.saveArea.length ≤ yardBytes ∧ restoreS.owned coreOnly 64 saveS.saveArea.length = true ∧
    restoreS.yard.mem.read 64 saveS.saveArea.length = saveS.saveArea ∧ saveS.tileUsed 3 = true ∧ saveS.accUsed 3 = false := by
  decide +kernel

/-! ## The vector engine -/

def vecS : State := { regs base [(VX_VL, 300)] with tensor := { base.tensor with
  vregs := (base.tensor.vregs.write 2048 [0xFF, 0xFF, 0xFF, 0x7F, 1, 0, 0, 0]).write 4096 [1, 0, 0, 0] } }
theorem test_VectorInteger : vecS.readyT = true ∧ vecS.tmode = false := by decide +kernel
theorem test_vadd_wraps : next (.vadd (0x20#6 ++ 4#5 ++ 1#5 ++ 2#5 ++ 0#3 ++ 3#2 ++ 0#6)) vecS
    (fun t => (t.tensor.vx.map (fun op => op.byteAt (4 * 2048 + 3))) == [some 0x80]) = true := by decide +kernel
theorem test_VectorFloat : vecS.readyT = true ∧ vecS.tmode = false ∧ (1#2 : BitVec 2) ≠ 3 ∧ (0#2 : BitVec 2) ≠ 1 := by decide +kernel
/-- R208: VFNMA is −(vd · va) + vb. -/
theorem test_fnma : (f32.ffma true 0x3F800000 0x3F800000 0x40000000).1 = 0x3F800000 := by decide +kernel
theorem test_VectorRounding : (f16.round false 1 0).2.getLsbD 2 = false ∧ f16.expo 0x3C01 < 2 ^ f16.eb - 1 ∧ (f16.dec 0x7C00).isNan = false ∧
    (f16.dec 0x7C01).isNan = true ∧ (f16.dec 0x7C01).isSig = true := by decide +kernel
theorem test_VectorReductions : vecS.readyT = true ∧ vecS.tmode = false ∧ 0 ∈ (List.range 300).filter (vecS.active 0 300) ∧
    (regs vecS [(VX_VL, 0)]).readyT = true ∧ (List.range 0).filter (vecS.active 0 0) = [] ∧ (30#5).toNat + (1#5).toNat ≤ 31 ∧
    (30#5).toNat % 2 = 0 := by decide +kernel
theorem test_VectorReductions_order : let s := regs vecS [(VX_VL, 2)]
    s.readyT = true ∧ (∀ e ∈ (List.range 2).filter (s.active 0 2), (BitVec.ofNat 32 (s.vElem 1 4 e)).toInt ≤ (BitVec.ofNat 32 (s.vElem 1 4 0)).toInt ∧
      (BitVec.ofNat 32 (s.vElem 1 4 1)).toInt ≤ (BitVec.ofNat 32 (s.vElem 1 4 e)).toInt) := by decide +kernel
theorem test_VectorControl : vecS.readyT = true ∧ vecS.tmode = false ∧ (7#3 : BitVec 3) ≠ 0 ∧ (3#2 : BitVec 2) = 3 ∧ (0#2 : BitVec 2) ≠ 3 := by
  decide +kernel
def drayS : State := { regs base [(CM_FEAT 0, 0x7FF), (VX_VL, 2)] with tensor := { base.tensor with
  vregs := (base.tensor.vregs.write 2048 (toBytes 8 0x3FF8000000000000 ++ toBytes 8 0x7FF0000000000000)).write 4096 (toBytes 8 0x40B0000000000000) } }
theorem test_VectorDray : drayS.readyT = true ∧ drayS.tmode = false ∧ drayS.active 0 2 0 = true ∧ drayS.active 0 2 1 = true ∧
    f64.dec (drayS.vElem 2 8 0) = .fin false (2 ^ 52) (-40) ∧ signed false (2 ^ 52) * 2 ^ (-40 : Int).toNat = 4096 * 2 ^ (40 : Int).toNat ∧
    f64.dec (drayS.vElem 1 8 0) = .fin false 0x18000000000000 (-52) ∧ topExp 0x18000000000000 (-52) < 4096 ∧
    f64.dec (drayS.vElem 1 8 1) = .inf false ∧ (15#4 : BitVec 4) ≠ 0 := by decide +kernel
def vmemS : State := gprs (regs { (yard coreY [(64, 8, 0x1122334455667788)]) with tensor := { base.tensor with
  vregs := base.tensor.vregs.write (7 * 2048) (toBytes 4 0xFFFFFFFF ++ toBytes 4 3) } } [(VX_VL, 2)]) [(5, BitVec.ofNat 64 (yb + 64))]
theorem test_VectorMemory : vmemS.readyT = true ∧ vmemS.tmode = false ∧ vmemS.b SP_CTRL 0 = false ∧ vmemS.core.sb = [] ∧ vmemS.yard.bad = [] ∧
    vmemS.yard.weak = [] ∧ (vmemS.g 5).toNat = vmemS.yardPA 64 ∧ 64 % 4 = 0 ∧ 64 + 2 * 4 ≤ yardBytes ∧
    vmemS.owned coreOnly 64 (2 * 4) = true := by decide +kernel
theorem test_VectorMemory_indexed : (vmemS.g 5).toNat % 4 = 0 ∧ ∀ e < 2, vmemS.active 0 2 e = true →
    (60 + 16 * e) % 4 = 0 ∧ 60 + 16 * e + 4 ≤ yardBytes ∧ vmemS.owned coreOnly (60 + 16 * e) 4 = true ∧
    (vmemS.g 5 + BitVec.ofInt 64 ((BitVec.ofNat 32 (vmemS.vElem 7 4 e)).toInt * 4)).toNat = vmemS.yardPA (60 + 16 * e) := by decide +kernel
def vxOp : VxOp := ⟨0, 0, 0, none, [(5, 1), (7, 2)], some (7, 0xF0, 0xAA), 5⟩
theorem test_VectorCommit : let s : State := { base with tensor := { base.tensor with vx := [vxOp] } }
    s.opening = false ∧ vxOp.due ≤ s.time.toNat ∧ s.tensor.vx = [vxOp] ∧ (s.claim .vxCommit).tensor.vx = [vxOp] ∧ vxOp.slot = none ∧
    (vxOp.wr.map (·.1)).Nodup ∧ (∀ p, vxOp.mask = some p → p.1 < 8) := by
  refine ⟨by decide +kernel, by decide +kernel, rfl, by decide +kernel, rfl, by decide +kernel, fun p h => ?_⟩
  cases h; decide

/-! ## Slots -/

/-- Leg cycle 100 of a running timetable; lane 1 issues slot 3 now. -/
def slotS : State := regs
  { base with
    legOpen := true, cycle := 100, time := 1000, seq := { base.seq with lanes := Vector.replicate 4 ⟨0, 0, 3, 99, false, []⟩ } }
  ([(HN_TT_STATE, 1), (CM_FEAT 0, 0x7FF)] ++ (List.range 4).map (fun g => (YD_OWNER g, 3)))
def at_ : SlotAt := ⟨1, 3, 100⟩
/-- In states that draw no mail, land no frame and move no line, with lanes of no slots left to fetch, every bank is free. -/
theorem served_of (s : State) (b c : Nat) (h : (∀ k < 16, s.mailEn k = false) ∧ s.yardMoves = [] ∧ s.relay.landing = [] ∧
    ∀ i < 4, (s.seq.lanes.toList.getD i Lane.idle).count = 0) : s.served 5 0 b c = true := by
  obtain ⟨hm, hy, hr, hl⟩ := h
  have h1 : s.fetchAt b c = false := by
    simp only [State.fetchAt, Bool.and_eq_false_iff, List.any_eq_false]
    exact .inr fun i hi => by simp only [hl i (List.mem_range.mp hi)]; simp
  have h2 : s.mailAt b c = [] := by
    simp only [State.mailAt, List.filter_eq_nil_iff, List.mem_range]
    intro k hk
    simp [hm k hk]
  simp [State.served, h1, h2, State.landAt, State.lineAt, hr, hy]
theorem slotFree_of (s : State) (h : s.phase = .run ∧ s.quiet = true ∧ s.cycle ≤ 100 ∧ s.slotOk at_ = true ∧ s.seq.windows = [] ∧
    s.seq.occupied = []) (hu : let u := (s.atCycle at_.cycle.toNat).issued at_
      (∀ k < 16, u.mailEn k = false) ∧ u.yardMoves = [] ∧ u.relay.landing = [] ∧ ∀ i < 4, (u.seq.lanes.toList.getD i Lane.idle).count = 0) :
    s.slotFree at_ := by
  obtain ⟨h1, h2, h3, h4, h5, h6⟩ := h
  exact ⟨h1, h2, h3, h4, h5, h6, fun b c _ => served_of _ b c hu⟩
theorem test_MatrixSlot : (regs slotS [(TF_SHAPE 5, 0x302)]).slotFree at_ ∧ (regs slotS [(TF_SHAPE 5, 0x302)]).atCycle 100 = regs slotS [(TF_SHAPE 5, 0x302)] ∧
    (regs slotS [(TF_SHAPE 5, 0x302)]).tileW 5 = 256 ∧ (regs slotS [(TF_SHAPE 5, 0x302)]).errStore 2 = false ∧
    (regs slotS [(TF_SHAPE 5, 0x302)]).accUsed 2 = false ∧ (regs slotS [(TF_SHAPE 5, 0x302)]).mxBusy = false :=
  ⟨slotFree_of _ (by decide +kernel) (by decide +kernel), by decide +kernel⟩
theorem test_MatrixSlot_busy : let s := { regs slotS [(TF_SHAPE 5, 0x302)] with tensor := { slotS.tensor with mxBusy := 1001 } }
    s.slotFree at_ ∧ s.mxBusy = true ∧ s.tileW 5 = 256 ∧ s.errStore 2 = false ∧ s.accUsed 2 = false :=
  ⟨slotFree_of _ (by decide +kernel) (by decide +kernel), by decide +kernel⟩
theorem test_slot_free : slotS.slotFree at_ := slotFree_of _ (by decide +kernel) (by decide +kernel)
theorem test_TileAndVectorSlots : slotS.slotFree at_ ∧ slotS.tfBusy = false ∧ slotS.vxBusy = false ∧ slotS.time.toNat + 2 < 2 ^ 64 :=
  ⟨test_slot_free, by decide +kernel, by decide +kernel, by decide +kernel⟩
theorem test_YardWordSlots : slotS.slotFree at_ ∧ 0x40 % 8 = 0 ∧ 0x48 % 8 = 0 ∧ 0x40 ≠ 0x48 ∧ slotS.owned ttReads 0x40 8 = true ∧
    slotS.owned ttWrites 0x48 8 = true ∧ slotS.yard.bad = [] ∧ slotS.yard.weak = [] ∧ slotS.time.toNat + 13 < 2 ^ 64 ∧
    inSet 0x40 slotS.yard.full = false ∧ inSet 0x48 slotS.yard.full = false :=
  ⟨test_slot_free, by decide +kernel⟩
theorem test_YardWordSlots_full : (tags slotS [0x40, 0x48]).slotFree at_ ∧ inSet 0x40 (tags slotS [0x40, 0x48]).yard.full = true ∧
    inSet 0x48 (tags slotS [0x40, 0x48]).yard.full = true :=
  ⟨slotFree_of _ (by decide +kernel) (by decide +kernel), by decide +kernel⟩
theorem test_OneCycleSlots : (regs slotS [(HN_MAIL_TAGW 15, 0x48)]).slotFree at_ ∧ 0x40 % 8 = 0 ∧ slotS.owned ttWrites 0x40 8 = true ∧
    slotS.owned ttReads 0x40 8 = true ∧ (regs slotS [(HN_MAIL_TAGW 15, 0x48)]).mailTag 15 = 0x48 ∧
    slotS.owned ttWrites 0x48 8 = true ∧ slotS.yard.bad = [] ∧ slotS.yard.weak = [] ∧ slotS.seq.seen = [] ∧
    slotS.time.toNat + 2 < 2 ^ 64 ∧ inSet 0x40 slotS.yard.full = false ∧ inSet 0x40 (tags slotS [0x40]).yard.full = true :=
  ⟨slotFree_of _ (by decide +kernel) (by decide +kernel), by decide +kernel⟩
def blank : Desc := {
  ctrl := 0, src := 0, dst := 0, len := 128, lists := 0, done := 0, gate := 0, stat := 0, srcP := [], dstP := [], hv := [],
  waits := [], atsSrc := none, atsDst := none, gated := false, next := 0, bursts := [], written := [], half := false, ended := none,
  firedAt := 0, lane := 0, slot := 0, lost := none, stop := none, buf := [] }
def moved (a b : Nat) : Desc := { blank with srcP := [(a, 128, 0)], dstP := [(b, 128, 0)] }
def chan (s : State) (c : Nat) (h : Chan) : State := { s with wb := { s.wb with ch := s.wb.ch.setIfInBounds c h } }
def fireS : State := chan slotS 15 ⟨none, some { moved yb (yb + 0x1000) with firedAt := 900 }, false⟩
theorem test_TransferSlots : slotS.slotFree at_ ∧ 0x100 % 256 = 0 ∧ slotS.owned ttReads 0x100 256 = true ∧ slotS.wbBusy 15 = false ∧
    slotS.owned ttWrites 0x40 64 = true ∧ 0x40 % 64 = 0 ∧ (slotS.chan 15).active = none ∧ (slotS.chan 15).shadow = none ∧
    slotS.time.toNat + 4 < 2 ^ 64 :=
  ⟨test_slot_free, by decide +kernel⟩
theorem test_TransferSlots_fire : fireS.slotFree at_ ∧ fireS.wbBusy 15 = false ∧ (fireS.chan 15).active = none ∧
    (fireS.chan 15).shadow = some { moved yb (yb + 0x1000) with firedAt := 900 } ∧ 900 ≤ fireS.time.toNat ∧
    (fireS.yardOnly (moved yb (yb + 0x1000))).isSome = true :=
  ⟨slotFree_of _ (by decide +kernel) (by decide +kernel), by decide +kernel⟩
/-- R71, R76: TAKE empties its source in the next cycle and gives its value to a word of bank 0 four cycles on. -/
theorem test_take : next (.ysTake at_ (0#32 ++ 0x48#32 ++ 0x40#32)) (tags (yard slotS [(0x40, 8, 0x55)]) [0x40])
    (fun t => inSet 0x40 t.yard.full && !inSet 0x40 (t.advanceTo 101).yard.full &&
      (t.advanceTo (100 + distClass 1 0x40)).yWord 0x48 == 0x55) = true := by decide +kernel

/-- R71, R72, R76: PUT tests DST as the copy reaches it. -/
theorem test_put_full : next (.ysPut at_ (0#32 ++ 0x48#32 ++ 0x40#32)) (tags (yard slotS [(0x40, 8, 0x55)]) [0x48])
    (fun t => t.f HN_YS_MISS 47 0 == 0 && (t.advanceTo (100 + distClass 1 0x40)).f HN_YS_MISS 47 0 == 1) = true := by decide +kernel

/-! ## The Waybill engine -/

def plain : List (Nat × Nat × Nat) := [(0x48, 8, 0x1000), (0x50, 8, 0x20000), (0x58, 8, 300), (0x60, 8, 0x0123456700000000)]
def queueS : State := gprs (regs (yard coreY plain) [(WB_CH_CFG 55, 0)]) [(5, BitVec.ofNat 64 (yb + 0x40))]
theorem test_WaybillQueueing : queueS.opening = false ∧ queueS.ready = true ∧ 1 ≤ queueS.priv ∧ queueS.f (WB_CH_CFG 55) 1 0 = 0 ∧
    queueS.coreYard (queueS.g 5) 0x40 64 ∧ queueS.yard.bad = [] ∧ queueS.yard.weak = [] ∧ queueS.coach.commit = none ∧
    queueS.pieces + 2 ≤ 131072 := by unfold State.coreYard; decide +kernel
theorem test_WaybillQueueing_descriptor :
    (let W := fun (i : Nat) => (BitVec.ofNat 64 (queueS.yard.mem.num (0x40 + 8 * i) 8) : Word)
     let n := (W 3).toNat
     W 0 = 0 ∧ 0 < n ∧ n < 2 ^ 40 ∧ fld (W 4) 31 0 = 0 ∧ W 5 = 0 ∧ W 6 = 0 ∧ W 7 = 0 ∧ queueS.place (W 1).toNat = .dram ∧
       localOf (W 1).toNat + n ≤ 0x18000000000 ∧ queueS.place (W 2).toNat = .dram ∧ localOf (W 2).toNat + n ≤ 0x18000000000) := by decide +kernel
def hostS : State := regs (yard base plain) [(WB_CH_CFG 16, 1)]
theorem test_WaybillQueueing_host : hostS.opening = false ∧ hostS.phase = .run ∧ hostS.f (WB_CH_CFG 16) 1 0 = 1 ∧
    hostS.owned (fun g => decide (g = 1)) 0x40 64 = true ∧ fld (BitVec.ofNat 64 (yb + 0x40)) 55 6 * 64 = hostS.yardPA 0x40 ∧
    (regs base [(WB_CH_CFG 16, 2)]).f (WB_CH_CFG 16) 1 0 = 2 ∧ (regs base [(WB_CH_CFG 16, 0)]).f (WB_CH_CFG 16) 1 0 ≠ 1 ∧
    (regs base [(WB_CH_CFG 16, 0)]).f (WB_CH_CFG 16) 1 0 ≠ 2 ∧ (1#64).getLsbD 0 = true := by decide +kernel
def atsD : Desc := { blank with srcP := [(0x5000, 128, 0)], atsSrc := some 0 }
theorem test_WaybillTranslation : base.opening = false ∧ 20 < 56 ∧ (chan base 20 ⟨some atsD, none, false⟩).chan 20 = ⟨some atsD, none, false⟩ ∧
    atsD.srcP = [(0x5000, 128, 0)] ∧ atsD.len = 128 ∧ atsD.atsSrc = some 0 ∧ atsD.atsDst = none ∧ atsD.ended = none ∧
    bit atsD.ctrl 10 = false ∧ (0xFFFFFFFFFFF#64).toNat < 2 ^ 44 ∧ 0 < (127#40).toNat ∧ (127#40).toNat < 128 ∧ 128 ≤ (128#40).toNat := by
  decide +kernel
def heldD : Desc := { blank with hv := [(0x1FFF, 1)], ctrl := 3 <<< 44 }
theorem test_WaybillTranslation_invalidation : base.phase = .run ∧ base.wb.invals = [] ∧
    (∀ k < 56, (base.chan k).active = none ∧ (base.chan k).shadow = none) ∧
    (chan base 20 ⟨some heldD, none, false⟩).chan 20 = ⟨some heldD, none, false⟩ ∧ fld heldD.ctrl 63 44 = (3#20).toNat ∧
    0x1FFF < 0x1000 + 0x1000 ∧ 0x1000 < 0x1FFF + 1 := by decide +kernel
/-- A transfer of 128 bytes on channel 55, from DRAM into the Yard or out of it, as far as its burst has come. -/
def movesS (a b : Nat) (bs : List Burst) (n : Nat) : State :=
  chan base 55 ⟨some { moved a b with bursts := bs, next := n }, none, false⟩
def burstOf (a b : Nat) (reads : List (Nat × Nat)) (put : Nat) (writes : List (Nat × Nat)) : Burst :=
  ⟨0, a, b, 128, 0, 0, 128, reads, List.replicate 128 0, put, writes, true⟩
theorem test_WaybillMoves_in : let s := movesS 0x180 (yb + 0x180) [] 0
    s.live = true ∧ s.chan 55 = ⟨some (moved 0x180 (yb + 0x180)), none, false⟩ ∧ 0x180 % 512 + 128 ≤ 512 ∧
    (∀ j < 56, j ≠ 55 → (s.chan j).active = none) ∧ s.testing 7 = false ∧ s.place 0x180 = .dram ∧ s.place (yb + 0x180) = .yard 0x180 ∧
    s.owned (s.mayWrite 55) 0x180 128 = true ∧ s.mayIssue 55 = true ∧ s.blockFree 55 = true := by decide +kernel
theorem test_WaybillMoves_put : let s := movesS 0x180 (yb + 0x180) [burstOf 0x180 (yb + 0x180) [] 0 []] 128
    s.live = true ∧ s.chan 55 = ⟨some { moved 0x180 (yb + 0x180) with bursts := [burstOf 0x180 (yb + 0x180) [] 0 []], next := 128 }, none, false⟩ ∧
    (∀ j < 56, j ≠ 55 → (s.chan j).active = none) ∧ s.testing 7 = false ∧ s.place (yb + 0x180) = .yard 0x180 ∧
    s.owned (s.mayWrite 55) 0x180 128 = true := by decide +kernel
theorem test_WaybillMoves_out : let s := movesS (yb + 0x180) 0x180 [] 0
    s.live = true ∧ s.chan 55 = ⟨some (moved (yb + 0x180) 0x180), none, false⟩ ∧ (∀ j < 56, j ≠ 55 → (s.chan j).active = none) ∧
    s.testing 7 = false ∧ s.place (yb + 0x180) = .yard 0x180 ∧ s.place 0x180 = .dram ∧ s.owned (s.mayRead 55) 0x180 128 = true ∧
    s.yard.bad = [] ∧ s.yard.weak = [] ∧ s.mayIssue 55 = true ∧ s.blockFree 55 = true := by decide +kernel
theorem test_WaybillMoves_responses : let s := movesS 0x180 0x580 [burstOf 0x180 0x580 [(0, 128)] 0 []] 128
    let t := movesS 0x180 0x580 [burstOf 0x180 0x580 [] 128 [(0, 128)]] 128
    s.live = true ∧ t.live = true ∧
    s.chan 55 = ⟨some { moved 0x180 0x580 with bursts := [burstOf 0x180 0x580 [(0, 128)] 0 []], next := 128 }, none, false⟩ ∧
    t.chan 55 = ⟨some { moved 0x180 0x580 with bursts := [burstOf 0x180 0x580 [] 128 [(0, 128)]], next := 128 }, none, false⟩ ∧
    ({ base with wb := { base.wb with strays := [6] } } : State).wb.strays = [6] := by decide +kernel
/-- R264: the first beat asks for the burst; the response's data is written at the next one. -/
theorem test_engine_beat : (movesS 0x180 (yb + 0x180) [] 0).engineBeat.out = [.fabRead .uns 0x180 128] := by decide +kernel
theorem test_WaybillMoves_end : (regs base [(WB_CH_CFG 16, 0)]).f (WB_CH_CFG 16) 1 0 = 0 ∧ blank.bursts = [] ∧ blank.stat = 0 ∧
    blank.len < 2 ^ 40 ∧ fld blank.ctrl 13 12 ≤ 1 ∧ ({ blank with ended := some (3, 0, 0, 5) } : Desc).written = [] ∧
    (chan base 16 ⟨some { blank with written := [(0, 128)] }, some blank, false⟩).chan 16 =
      ⟨some { blank with written := [(0, 128)] }, some blank, false⟩ ∧ bit blank.ctrl 10 = false := by decide +kernel
def ownD : Desc := { moved yb (yb + 0x1000) with next := 2, firedAt := 100 }
def ownS : State := chan { base with time := 118 } 6 ⟨some ownD, none, false⟩
theorem test_WaybillMoves_own : ownS.live = true ∧ ownS.mail.draws = [] ∧ ownS.relay = ⟨[], []⟩ ∧ ownS.tensor.jobs = [] ∧ ownS.commits = [] ∧
    ownS.coach.dump = none ∧ (∀ j < 16, j ≠ 6 → (ownS.chan j).active = none) ∧ ownS.chan 6 = ⟨some ownD, none, false⟩ ∧
    (ownS.yardOnly ownD).isSome = true ∧ ownD.next = ownD.len / 64 ∧ ownD.stop = none ∧ ownD.lost = none ∧
    ownD.firedAt + ownD.len / 64 + 16 ≤ ownS.time.toNat := by decide +kernel
theorem test_WaybillMoves_own_lost : let d := { ownD with lost := some 1 }
    (chan { base with time := 118 } 6 ⟨some d, none, false⟩).chan 6 = ⟨some d, none, false⟩ ∧ d.lost = some 1 ∧ 1 < d.len / 64 := by
  decide +kernel

/-! ## Horn, leg, mail, relay -/

def legS : State := { base with legOpen := true, cycle := 100, time := 1000, leg := 5 }
def lateS : State := { legS with seq := { legS.seq with lanes := legS.seq.lanes.setIfInBounds 2 ⟨0, 0, 0, 0, false, []⟩ } }
theorem test_HornEdges : legS.live = true ∧ legS.quiet = true ∧ legS.seq.seen = [] ∧ legS.b HN_CTRL 0 = false ∧
    legS.legOpen = true ∧ legS.cycle ≤ 87499 ∧ 87499 < legS.P / 2 ∧ legS.P ≤ 175000 ∧ 175000 < 3 * legS.P / 2 ∧
    legS.b HN_HORN_STATUS 1 = false ∧ base.live = true ∧ base.quiet = true ∧ base.seq.seen = [] ∧ base.legOpen = false ∧
    (regs legS [(HN_CTRL, 1)]).b HN_CTRL 0 = true := by
  decide +kernel
theorem test_HornEdges_cut : lateS.quiet = true ∧ lateS.seq.seen = [] ∧ lateS.P / 2 ≤ 170903 ∧ 170903 < lateS.P - lateS.M ∧
    lateS.b HN_HORN_STATUS 1 = false ∧ (∀ k < 16, lateS.mailEn k = false) ∧ (∃ i < 4, (lateS.lane i).ended = false) ∧
    lateS.P - lateS.M ≤ 170904 ∧ 170904 < lateS.P ∧ (∀ i < 4, (legS.lane i).ended = true) ∧ legS.P / 2 ≤ 87500 := by decide +kernel
theorem test_HornEdges_lost : let s := regs legS [(HN_HORN_STATUS, 2)]
    s.quiet = true ∧ s.seq.seen = [] ∧ s.b HN_CTRL 0 = false ∧ s.b HN_HORN_STATUS 1 = true ∧ s.legOpen = true ∧
    (∀ k < 16, s.mailEn k = false) ∧ (∀ i < 4, (s.lane i).ended = true) ∧ s.cycle ≤ s.P := by decide +kernel
theorem test_HornEdges_local : legS.cycle ≤ 3 * legS.P / 2 ∧ legS.cycle ≤ legS.P := by decide +kernel
/-- R55: a local horn's leg opens with LOST, and the edge that ends it is RESTORED. -/
theorem test_edge_restores : next (.hornEdge 100000) (regs legS [(HN_HORN_STATUS, 2)])
    (fun t => t.opening && t.rd HN_HORN_STATUS == 0x10 && t.seq.seen == [6]) = true := by decide +kernel
/-- R54: the edge at P − M − 1 of a leg with a lane left cuts it, with OVERRUN. -/
theorem test_edge_cuts : next (.hornEdge 170903) lateS (fun t => t.opening && t.seq.seen == [3]) = true := by decide +kernel
def openS (tt : Word) (halt : Bool) (first : Nat) : State :=
  { regs legS [(HN_TT_STATE, tt)] with opening := true, cycle := 0, seq := { legS.seq with halt := halt, runFirst := first } }
theorem test_LegChange : (openS 1 false 0).phase = .run ∧ (openS 1 false 0).opening = true ∧ (openS 1 false 0).coach.commit = none ∧
    (openS 1 false 0).coach.test = none ∧ (openS 1 false 0).ostler.todo = [] ∧ (openS 1 false 0).tt = 1 ∧ (openS 0 false 0).tt = 0 ∧
    (openS 1 false 0).b PW_STATUS 1 = false ∧ (openS 1 true 0).tt = 1 ∧ (openS 1 true 0).seq.halt = true ∧
    (openS 0x104 false 5).tt = 4 ∧ (openS 0x104 false 5).leg.toNat + 1 ≠ (openS 0x104 false 5).seq.runFirst ∧
    (openS 4 false 5).f HN_TT_STATE 11 8 = 0 ∧ (openS 4 false 5).leg.toNat + 1 < 2 ^ 48 := by decide +kernel
theorem test_LegChange_runout : (openS 0x202 false 6).tt = 2 ∧ (openS 0x202 false 6).leg.toNat + 1 = (openS 0x202 false 6).seq.runFirst ∧
    (openS 0x202 false 5).leg.toNat + 1 ≠ (openS 0x202 false 5).seq.runFirst ∧ 0 < (openS 0x202 false 5).f HN_TT_STATE 11 8 ∧
    (openS 2 false 5).f HN_TT_STATE 11 8 = 0 := by decide +kernel
theorem test_LegChange_image : (∃ im, ({ openS 1 false 0 with seq := { (openS 1 false 0).seq with image := some ⟨0, 0, 0, [1, 1, 1, 1], [], []⟩ } } :
    State).seq.image = some im) := ⟨_, rfl⟩
def commitS : State := { openS 0 false 0 with coach := { base.coach with commit := some ⟨7, false, some [(HN_PERIOD, 200000)], none⟩ } }
theorem test_LegChange_harness : commitS.phase = .run ∧ commitS.opening = true ∧
    commitS.coach.commit = some ⟨7, false, some [(HN_PERIOD, 200000)], none⟩ ∧
    (200000#64).toNat < 2 ^ 27 ∧ commitS.coach.adm = none ∧ commitS.coach.test = none ∧ commitS.ostler.todo = [] ∧
    commitS.inFlight = false := by decide +kernel
theorem test_LegChange_answer : let s : State := { legS with coach := { base.coach with commit := some ⟨7, true, none, some 5⟩ } }
    s.phase = .run ∧ s.opening = false ∧ s.quiet = true := by
  decide +kernel
theorem test_LegChange_margin : legS.legOpen = true ∧ legS.opening = false ∧ legS.quiet = true ∧ legS.seq.seen = [] ∧
    (∀ c < 16, (legS.chan c).active = none) := by decide +kernel
def mailS : State := tags (regs legS [(HN_TT_STATE, 1), (HN_MAIL_DEADLINE 15, 0x8000000000000064), (HN_MAIL_TAGW 15, 0x40),
  (HN_MAIL_BUF 15, 0x1000)]) [0x40]
theorem test_MailDraws : mailS.live = true ∧ mailS.quiet = true ∧ mailS.legOpen = true ∧ mailS.tt = 1 ∧
    mailS.mailEn 15 = true ∧ mailS.cycle ≤ mailS.mailD 15 ∧ (∀ j < 16, j ≠ 15 → mailS.mailEn j = false) ∧
    mailS.fetchAt (bankOf (mailS.mailTag 15)) (mailS.mailD 15) = false ∧ mailS.yard.bad = [] ∧ mailS.yard.weak = [] ∧
    mailS.seq.allSubst = false ∧ mailS.seq.substFrom = none ∧ mailS.seq.seen = [] ∧ mailS.mail.lines = [] ∧ mailS.mail.held < 64 ∧
    mailS.fetchAt (bankOf 0x1000) (mailS.mailD 15 + 1) = false := by decide +kernel
theorem test_MailDraws_halt : let s := regs mailS [(HN_TT_STATE, 4)]
    s.live = true ∧ s.quiet = true ∧ s.tt = 4 ∧ s.mailEn 15 = true ∧ s.fetchAt (bankOf (s.mailTag 15)) (s.mailD 15) = false ∧
    ({ mailS with seq := { mailS.seq with allSubst := true } } : State).quiet = true := by decide +kernel
def drawn : Draw := ⟨15, true, 100, 0x1000, 1024, 1024, true, 5⟩
theorem test_MailDraws_record : drawn.k = (15#4).toNat ∧ drawn.next = drawn.len ∧ 0 < drawn.len ∧ drawn.len ≤ 1024 ∧ drawn.leg < 2 ^ 48 := by
  decide
theorem test_MailDraws_credit : let s : State := { mailS with mail := ⟨[], [(5, [1])], [], 64⟩ }
    0 < s.mail.held ∧ s.mail.lines = [(5, [1])] ∧ ({ mailS with mail := ⟨[], [], [], 1⟩ } : State).mail.recs = [] := by decide +kernel
/-- R88: with the tag word full the buffer is drawn and the tag emptied. -/
theorem test_draw : next (.mailDraw 15) mailS (fun t => t.yard.full == [] && t.mail.draws.map (·.sub) == [false]) = true := by decide +kernel
def relayS : State := { regs legS [(YD_OWNER 2, 2), (RL_LANE_CFG 7, 0x8000000000000100)] with pins := { base.pins with lock := BitVec.allOnes 9 } }
def frame : BitVec 2208 := mkFrame (0x3000 * 2 ^ 16) 5000 (List.replicate 256 9)
theorem test_RelayFrames : relayS.live = true ∧ relayS.quiet = true ∧ relayS.tt = 0 ∧ relayS.seq.windows = [] ∧ relayS.b (RL_LANE_CFG 7) 63 = true ∧
    relayS.pins.lock.getLsbD (relayS.port 7) = true ∧ relayS.portTest (relayS.port 7) = false ∧ relayS.b (RL_LANE_CFG 6) 63 = false ∧
    relayS.seq.seen = [] ∧ 5000 + relayS.f (RL_LANE_CFG 7) 19 0 + 36 + 4 ≤ relayS.P ∧ relayS.owner 0x300000 = 2 ∧
    7 ∈ ({ relayS with ostler := { relayS.ostler with moved := [7] } } : State).ostler.moved := by decide +kernel
set_option maxRecDepth 100000 in
theorem test_RelayFrames_frame : frameCrcOk frame = true ∧ fld frame 63 37 = 0 ∧ fld frame 15 10 = 0 ∧ fld frame 127 109 = 0 ∧
    fld frame 95 91 = 0 ∧ fld frame 9 6 = relayS.pins.blk.toNat ∧ fld frame 5 0 = relayS.pins.pkg.toNat ∧ fld frame 36 16 * 256 = 0x300000 ∧
    fld frame 90 64 = 5000 ∧ frameCrcOk (frame ^^^ 1) = false := by decide +kernel
set_option maxRecDepth 100000 in
/-- R310: the landing cycle is TX + ROUTE + 36; the frame may arrive up to it. -/
theorem test_land : next (.relayFrameArrival 7 frame 5292 false) relayS (fun t => t.relay.landing.map (·.land) == [5292]) = true := by
  decide +kernel
theorem test_LanesAndDrag : relayS.live = true ∧ relayS.pins.lock.getLsbD 8 = true ∧ relayS.port 7 = 7 ∧ (∀ j < 7, relayS.port j ≠ 7) ∧
    relayS.relay.tx = [] ∧ ({ relayS with relay := ⟨[], [⟨7, 983, none, true⟩]⟩ } : State).relay.tx = [⟨7, 983, none, true⟩] ∧
    ({ relayS with relay := ⟨[], [⟨7, 983, none, false⟩]⟩ } : State).relay.tx = [⟨7, 983, none, false⟩] := by decide +kernel

/-! ## Resets, debug, registers, power -/

theorem test_Resets : base.phase ≠ .powerOn ∧ (∀ c < 56, (base.chan c).active = none ∧ (base.chan c).shadow = none) ∧
    State.reset.phase = .powerOn ∧ fld (0xA501#64) 15 8 = 0xA5 ∧ (0xA501#64).getLsbD 0 = true ∧ fld (1#64) 15 8 ≠ 0xA5 ∧
    State.reset.phase ≠ .run := by decide +kernel
theorem test_reset_complete : next .resetComplete State.reset (fun t => t.b PW_STATUS 0 && t.out == [.credits]) = true := by decide +kernel
def heldS : State := { base with core := { base.core with run := .held } }
theorem test_CoreControl : heldS.live = true ∧ heldS.askedAgain PW_CORE 0 = false ∧ heldS.askedAgain DB_CTRL 1 = false ∧
    heldS.askedAgain DB_CTRL 2 = false ∧ heldS.core.run = .held ∧ (1#64).getLsbD 0 = true ∧ base.live = true ∧ base.core.run ≠ .held ∧
    ({ base with core := { base.core with run := .resetting } } : State).core.l2 = [] := by decide +kernel
theorem test_CoreControl_debug : base.core.run = .run ∧ base.core.wait = none ∧ base.noTensor = true ∧ base.yard.room = [] ∧
    base.yard.wakes = [] ∧ base.yard.ungating = [] ∧ base.yard.tail = [] ∧ base.b DB_CTRL 2 = false ∧ (3#64).getLsbD 0 = true ∧
    (3#64).getLsbD 1 = true ∧ (3#64).getLsbD 2 = false ∧
    (regs base [(DB_CTRL, 1), (DB_BREAK 3, 0x8000000000000000)]).breakpoint = some (3#2).toNat ∧ base.b DB_CTRL 1 = false ∧
    (4#64).getLsbD 2 = true ∧ (4#64).getLsbD 1 = false := by decide +kernel
/-- R455: the core halts at a breakpoint at its address, and RESUME lets it pass there. -/
theorem test_resume : next (.dbResume 5) { regs base [(DB_CTRL, 1), (DB_PC, 64), (DB_STATUS, 1)] with core := { base.core with run := .halted } }
    (fun t => decide (t.core.run = .run) && t.core.pc == 64 && t.core.passBp == some 64) = true := by decide +kernel
theorem test_CoreControl_timer : (regs legS [(SC_TCMP, 1000)]).quiet = true ∧
    legS.time.toNat ≤ ((regs legS [(SC_TCMP, 1000)]).rd SC_TCMP).toNat := by decide +kernel
theorem test_halt : next (.dbHaltreq 3) base (fun t => decide (t.core.run = .halted) && t.rd DB_STATUS == 5) = true := by decide +kernel
theorem test_RegisterAccess : base.live = true ∧ base.priv = 2 ∧ (regs base [(YD_DBG_SEL, 0x8000000000000000)]).b YD_DBG_SEL 63 = true ∧
    (6#24).toNat % 4 ≠ 0 ∧ (0x8000000000000000#64).getLsbD 63 = true ∧ base.yard.room.length ≤ 4096 ∧ base.yard.bad = [] ∧
    base.yard.weak = [] := by decide +kernel
/-- R12: a W1C write leaves the event of its own ACLK; R13: a write to a counter leaves what it counted in that ACLK. -/
theorem test_same_aclk : next (.registerWrite .host (BitVec.ofNat 24 HN_GUARD_STATUS) true (BitVec.allOnes 64))
      ((regs base [(HN_GUARD_STATUS, 4)]).setB HN_GUARD_STATUS 1 true) (fun t => t.rd HN_GUARD_STATUS == 2) = true ∧
    next (.registerWrite .host (BitVec.ofNat 24 HN_YS_MISS) true 0) ((regs base [(HN_YS_MISS, 9)]).count HN_YS_MISS 3)
      (fun t => t.rd HN_YS_MISS == 3) = true := by decide +kernel
theorem test_RegisterAccess_readout : (regs base [(YD_DBG_SEL, 0)]).b YD_DBG_SEL 63 = false ∧ (regs base [(YD_DBG_SEL, 0)]).f YD_DBG_SEL 30 29 = 0 ∧
    (regs base [(YD_DBG_SEL, 0)]).f YD_DBG_SEL 28 0 % 8 = 0 ∧
    (regs base [(YD_DBG_SEL, 0x20000FFF)]).f YD_DBG_SEL 30 29 = 1 ∧ (regs base [(YD_DBG_SEL, 0x20000FFF)]).f YD_DBG_SEL 28 0 < 4096 ∧
    (regs base [(YD_DBG_SEL, 0x400000FF)]).f YD_DBG_SEL 30 29 = 2 ∧ (regs base [(YD_DBG_SEL, 0x400000FF)]).f YD_DBG_SEL 28 0 < 256 := by
  decide +kernel
/-- R11: a 4-byte write to the upper half of a counter leaves it. -/
theorem test_counter_halves : next (.registerWrite .host (BitVec.ofNat 24 (HN_YS_MISS + 4)) false 0) (regs base [(HN_YS_MISS, 9)])
    (fun t => t.rd HN_YS_MISS == 9) = true := by decide +kernel
theorem test_Power : ({ base with power := { base.power with ended := [(4, 100, 30)] } } : State).power.ended = [(4, 100, 30)] ∧ 4 < 2 ^ 32 ∧
    base.live = true ∧ base.power.quiet = false ∧ base.coach.receipts = [] ∧ base.core.run ≠ .wait ∧ base.yard.room = [] := by decide +kernel
def capS : State := regs { base with power := { base.power with runs := 3 } } [(PW_STATUS, 2), (PW_CAP, 400)]
theorem test_Power_over : capS.power.runs = 3 ∧ (!capS.b PW_STATUS 2) = true ∧ capS.f PW_CAP 10 0 * 125 < (50001#32).toNat ∧
    (50000#32).toNat ≤ capS.f PW_CAP 10 0 * 125 ∧ ({ base with power := { base.power with quiet := true } } : State).power.quiet = true := by
  decide +kernel

/-! ## Booking -/

def packet (op len : Nat) (payload : List Byte) : Packet :=
  BitVec.ofNat 512 (ofBytes (toBytes 2 op ++ toBytes 2 0x77 ++ toBytes 2 0 ++ toBytes 2 len ++ List.replicate 8 0 ++ payload))
/-- A packet waits in a ring of 16, the state of CM_STATE as given. -/
def bookS (st : Word) : State :=
  { regs base [(CM_CTRL, 1), (CM_BOOK_TAIL, 3), (CM_BOOK_HEAD, 2), (CM_STATE, st), (CM_FEAT 0, 0x7FF)] with
    coach := { base.coach with rings := (0x300000000000, 4, 0x300000010000, 5) }, leg := 5 }
theorem test_Rings : base.b CM_CTRL 0 = false ∧ fld (0x5401#64) 11 8 = 4 ∧ fld (0x5401#64) 15 12 = 5 ∧ (0x5401#64).getLsbD 0 = true ∧
    (let s := regs base [(CM_BOOK_BASE, 0x300000000000), (CM_RCPT_BASE, 0x300000010000)]
     s.f CM_BOOK_BASE 55 10 * 1024 % (2 ^ 4 * 64) = 0 ∧ s.place 0x300000000000 = .host ∧ s.place (0x300000000000 + 2 ^ 4 * 64 - 1) = .host ∧
       0x300000010000 % (2 ^ 5 * 32) = 0 ∧ s.place 0x300000010000 = .host ∧ s.place (0x300000010000 + 2 ^ 5 * 32 - 1) = .host) ∧
    fld (0x5301#64) 11 8 < 4 := by decide +kernel
theorem test_Rings_doorbell : (bookS 3).live = true ∧ (bookS 3).b CM_CTRL 0 = true ∧
    (fld (18#64) 31 0 + 2 ^ 32 - (bookS 3).f CM_BOOK_HEAD 31 0) % 2 ^ 32 = 2 ^ (bookS 3).coach.rings.2.1 ∧
    2 ^ (bookS 3).coach.rings.2.1 < (fld (19#64) 31 0 + 2 ^ 32 - (bookS 3).f CM_BOOK_HEAD 31 0) % 2 ^ 32 ∧ (bookS 3).coach.noTake = false ∧
    (2#32).toNat = (bookS 3).f CM_BOOK_HEAD 31 0 ∧ (3#32).toNat ≠ (bookS 3).f CM_BOOK_HEAD 31 0 := by
  decide +kernel
def postS : State := regs { bookS 3 with coach := { (bookS 3).coach with receipts := [⟨0x21, 7, 2, true, false, 5, 6, 8⟩], notify := true } }
  [(CM_RCPT_TAIL, 31), (CM_NOTIFY_ADDR, 0x300000020000)]
theorem test_Rings_post : postS.b CM_CTRL 0 = true ∧ postS.coach.noPost = false ∧ postS.b RL_DRAG 63 = false ∧ postS.coach.lost = 0 ∧
    postS.gap CM_RCPT_TAIL CM_RCPT_HEAD < 2 ^ postS.coach.rings.2.2.2 ∧ postS.coach.notify = true ∧ postS.f CM_NOTIFY_ADDR 55 2 ≠ 0 ∧
    2 ^ postS.coach.rings.2.2.2 ≤ (regs postS [(CM_RCPT_TAIL, 32)]).gap CM_RCPT_TAIL CM_RCPT_HEAD ∧ base.coach.notify = false := by decide +kernel
/-- R395: the receipt of index 31 in a ring of 32 has PHASE 1. -/
theorem test_post_phase : next (.receiptPost true) postS (fun t => (match t.out with
    | [.fabWrite .uns a bs] => a == 0x300000010000 + 32 * 31 && bs.getD 5 0 == 3
    | _ => false)) = true := by decide +kernel
theorem taking_of (s : State) (h : s.live = true ∧ s.b CM_CTRL 0 = true ∧ s.coach.noTake = false ∧ s.coach.badRead = none ∧
    s.b RL_DRAG 63 = false ∧ s.coach.receipts = [] ∧
    s.core.resetSeq = none ∧ 0 < s.gap CM_BOOK_TAIL CM_BOOK_HEAD ∧ s.gap CM_BOOK_TAIL CM_BOOK_HEAD ≤ 2 ^ s.coach.rings.2.1 ∧
    s.gap CM_RCPT_TAIL CM_RCPT_HEAD + 4 ≤ 2 ^ s.coach.rings.2.2.2) : s.taking := h
theorem form_of (p : Packet) (op len : Nat) (h : fld p 15 0 = op ∧ fld p 63 48 = len ∧ fld p 47 32 = 0 ∧ fld p 127 64 = 0 ∧
    fld p 511 (128 + 8 * len) = 0) : packetForm p op len := h
theorem test_BookingRefusals : (bookS 1).taking ∧ (bookS 1).f CM_STATE 2 0 = 1 ∧ (0x50, Instr.syncDump (packet 0x50 0 [])) ∈ bookings (packet 0x50 0 []) ∧
    fld (packet 0x50 0 []) 15 0 = 0x50 ∧ fld (packet 0x50 0 []) 32 32 = 0 ∧ (bookS 3).f CM_STATE 2 0 ≠ 1 ∧ 0x50 < fld (packet 0x51 0 []) 15 0 ∧
    fld (packet 0x50 0 [] ||| 0x8000000000) 39 33 ≠ 0 :=
  ⟨taking_of _ (by decide +kernel), by decide +kernel⟩
theorem test_BookingRefusals_barrier : ({ bookS 3 with coach := { (bookS 3).coach with stop := some 4 } } : State).taking ∧
    ({ bookS 3 with coach := { (bookS 3).coach with stop := some 4 } } : State).background ≠ 0 ∧
    (packet 0x50 0 [] ||| 0x100000000).getLsbD 32 = true :=
  ⟨taking_of _ (by decide +kernel), by decide +kernel⟩
theorem test_BookingRefusals_withdraw : (bookS 3).taking ∧ packetForm (packet 0x31 0 []) 0x31 0 ∧ (bookS 3).f CM_STATE 2 0 = 3 ∧
    (bookS 3).feature featTimetable = true ∧ (bookS 3).coach.admitting = none ∧ (bookS 3).coach.commit = none :=
  ⟨taking_of _ (by decide +kernel), form_of _ _ _ (by decide +kernel), by decide +kernel, by decide +kernel, rfl, rfl⟩
theorem test_BookingIdentity : (bookS 2).taking ∧ (bookS 2).f CM_STATE 2 0 = 2 ∧ packetForm (packet 1 0 []) 1 0 ∧
    packetForm (packet 2 16 (toBytes 16 0x7FF)) 2 16 ∧ packetForm (packet 3 16 (toBytes 16 6)) 3 16 ∧ packetForm (packet 4 0 []) 4 0 :=
  ⟨taking_of _ (by decide +kernel), by decide +kernel, form_of _ _ _ (by decide +kernel), form_of _ _ _ (by decide +kernel),
   form_of _ _ _ (by decide +kernel), form_of _ _ _ (by decide +kernel)⟩
theorem test_BookingIdentity_states : (bookS 0).taking ∧ (bookS 0).f CM_STATE 2 0 = 0 ∧ (bookS 3).taking ∧ (bookS 3).f CM_STATE 2 0 = 3 :=
  ⟨taking_of _ (by decide +kernel), by decide +kernel, taking_of _ (by decide +kernel), by decide +kernel⟩
/-- R404: MAIL without TIMETABLE is not accepted. -/
theorem test_accept : next (.featureAccept (packet 3 16 (toBytes 16 6))) (bookS 2) (fun t => t.rd (CM_FEAT 0) == 0) = true := by decide +kernel
/-- A firmware image of one line. -/
def image : List Byte := toBytes 4 0x54414F43 ++ toBytes 2 1 ++ toBytes 2 0 ++ toBytes 8 7 ++ toBytes 4 64 ++ toBytes 4 0 ++ List.replicate 168 0
def loadP : Packet := packet 0x10 16 (toBytes 8 0x1000 ++ toBytes 8 192)
theorem test_BookingIdentity_image : (bookS 0).taking ∧ packetForm loadP 0x10 16 ∧ pNum loadP 16 8 % 64 = 0 ∧ 0 < pNum loadP 24 8 ∧
    (bookS 0).place (pNum loadP 16 8) = .dram ∧ (bookS 0).place (pNum loadP 16 8 + (pNum loadP 24 8 - 1)) = .dram ∧
    image.length = pNum loadP 24 8 ∧ imageBad image = false :=
  ⟨taking_of _ (by decide +kernel), form_of _ _ _ (by decide +kernel), by decide +kernel⟩
def stageS : State := { bookS 3 with coach := { (bookS 3).coach with staged := [(HN_PERIOD, 200000)] } }
def setP : Packet := packet 0x20 12 (toBytes 3 HN_PERIOD ++ [0] ++ toBytes 8 0x7FFFFFF)
def readP (w : Byte) : Packet := packet 0x23 8 (toBytes 3 HN_PERIOD ++ [0, w, 0, 0, 0])
def admitP : Packet := packet 0x30 16 (toBytes 8 0x17FFFFC0 ++ [1, 0, 0, 0, 0, 0, 0, 0])
theorem test_BookingHarness : stageS.taking ∧ stageS.f CM_STATE 2 0 = 3 ∧ stageS.coach.admitting = none ∧ stageS.coach.commit = none ∧
    packetForm setP 0x20 12 ∧ packetForm (readP 0) 0x23 8 ∧ packetForm (readP 1) 0x23 8 ∧ packetForm (packet 0x22 0 []) 0x22 0 ∧
    packetForm (packet 0x21 0 []) 0x21 0 ∧ packetForm admitP 0x30 16 ∧ packetForm (packet 0x32 0 []) 0x32 0 :=
  ⟨taking_of _ (by decide +kernel), by decide +kernel, rfl, rfl, form_of _ _ _ (by decide +kernel), form_of _ _ _ (by decide +kernel),
   form_of _ _ _ (by decide +kernel), form_of _ _ _ (by decide +kernel), form_of _ _ _ (by decide +kernel), form_of _ _ _ (by decide +kernel),
   form_of _ _ _ (by decide +kernel)⟩
theorem test_BookingHarness_packets : pNum setP 16 3 = HN_PERIOD ∧ pNum setP 19 1 = 0 ∧ harnessMask HN_PERIOD ≠ 0 ∧
    BitVec.ofNat 64 (pNum setP 20 8) &&& ~~~harnessMask HN_PERIOD = 0 ∧ harnessMask HN_LEG = 0 ∧ pNum (readP 1) 20 1 = 1 ∧
    stageS.coach.staged = [(HN_PERIOD, 200000)] ∧ stageS.feature featTimetable = true ∧ pNum admitP 16 8 % 64 = 0 ∧
    pNum admitP 16 8 < 0x18000000 ∧ pNum admitP 24 1 ≤ 1 ∧ stageS.b HN_TT_STATE 16 = false ∧ stageS.opening = false ∧ stageS.tt ≠ 1 ∧
    (regs stageS [(HN_TT_STATE, 1)]).tt = 1 := by decide +kernel
def checkS (v : Word) : State := { bookS 3 with coach := { (bookS 3).coach with commit := some ⟨9, false, none, none⟩, staged := [(HN_PERIOD, v)] } }
theorem test_BookingHarness_check : (checkS 175000).live = true ∧
    checkHarness (checkS 175000) (checkS 175000).stagedView = none ∧ (174999#64).toNat < 175000 ∧
    checkHarness (checkS 174999) (checkS 174999).stagedView = some (1, HN_PERIOD) ∧
    ({ checkS 0 with coach := { (checkS 0).coach with staged := [] } } : State).coach.commit = some ⟨9, false, none, none⟩ := by decide +kernel
/-- The least image: END at cycle 64 in each of four lanes, and the fetches of its lines (R60 to R62, R65, R75). -/
def imageY : List (Nat × Nat × Nat) :=
  [(0x1000, 4, 1), (0x1004, 4, 1), (0x1008, 4, 1), (0x100C, 4, 1), (0x1010, 8, 64), (0x1024, 4, 1), (0x1028, 8, 0x2000), (0x1030, 4, 0xABC)] ++
  [0x1040, 0x1080, 0x10C0, 0x1100].map (fun o => (o, 16, 15 * 2 ^ 104)) ++ [(0x2000, 4, 44), (0x2004, 4, 59), (0x2008, 8, 0xFF000010)]
def admitS (l : List (Nat × Nat × Nat)) : State :=
  yard { regs (bookS 3) ((List.range 4).map (fun g => (YD_OWNER g, 3))) with
         coach := { (bookS 3).coach with admitting := some (9, 0x1000, false) } } l
theorem test_BookingHarness_admit : (admitS imageY).live = true ∧ (admitS imageY).coach.admitting = some (9, 0x1000, false) ∧
    (admitS imageY).yard.bad = [] ∧ (admitS imageY).yard.weak = [] ∧ (admitS imageY).admits 0x1000 = none := by decide +kernel
def testS (u : UnitId) (weak : List Nat) : State :=
  { bookS 3 with coach := { (bookS 3).coach with test := some ⟨9, u, none, false⟩ }, yard := { base.yard with weak := weak } }
theorem test_BookingHarness_denied : (admitS []).yard.mem.num 0x1000 4 = 0 ∧ ((admitS []).admits 0x1000).isSome = true := by decide +kernel
def testP (legs : Nat) : Packet := packet 0x40 8 (toBytes 2 0x100 ++ toBytes 2 legs)
def haltedS : State := regs (bookS 3) [(HN_TT_STATE, 4)]
theorem test_BookingUnits_test : (bookS 3).taking ∧ (bookS 3).coach.test = none ∧ packetForm (testP 0xFFFF) 0x40 8 ∧
    (testP 0xFFFF).extractLsb' 128 16 = 0x100 ∧ (unitDomain 0x100).isSome = true ∧ pNum (testP 0xFFFF) 20 4 = 0 ∧ (bookS 3).tt = 0 ∧
    (bookS 3).b HN_TT_STATE 16 = false :=
  ⟨taking_of _ (by decide +kernel), rfl, form_of _ _ _ (by decide +kernel), by decide +kernel⟩
theorem test_BookingUnits_busy : haltedS.taking ∧ haltedS.unitActive 0x100 = true ∧ fld (0x100#16) 15 8 ≠ 2 ∧ fld (0x100#16) 15 8 ≠ 3 ∧
    haltedS.tt = 4 ∧ haltedS.coach.adm = none := ⟨taking_of _ (by decide +kernel), by decide +kernel⟩
theorem test_BookingUnits_ends : (testS 0x143 []).live = true ∧ (testS 0x143 []).coach.test = some ⟨9, 0x143, none, false⟩ ∧
    (testS 0x143 []).unitActive 0x143 = false ∧ unitDomain 0x143 = some 67 ∧ (testS 0x143 []).unitBit HL_DEAD 67 = false ∧
    (testS 0x143 []).yard.bad = [] ∧ (testS 0x143 []).yard.weak = [] := by
  decide +kernel
def scrubS : State := regs (testS 0x203 [0x480040]) [(HL_THRESH, 0)]
theorem test_BookingUnits_scrub : scrubS.live = true ∧ scrubS.coach.test = some ⟨9, 0x203, none, false⟩ ∧ scrubS.yard.weak = [0x480040] ∧
    fld (0x203#16) 15 8 = 2 ∧ (unitDomain 0x203).isSome = true ∧ scrubS.unitActive 0x203 = true ∧ groupOf 0x480040 = fld (0x203#16) 7 0 ∧
    scrubS.f HL_THRESH 23 12 = 0 ∧ scrubS.yard.bad = [] := by decide +kernel
def fencedS (l : List (Nat × Word)) : State := regs (bookS 3) ((HL_FENCE 1, 8) :: l)
theorem test_BookingUnits_reinstate : (fencedS [(HL_PASS 1, 8)]).taking ∧ (fencedS [(HL_PASS 1, 8)]).unitBit HL_FENCE 67 = true ∧
    (fencedS [(HL_PASS 1, 8)]).unitBit HL_PASS 67 = true ∧ (fencedS []).unitBit HL_PASS 67 = false ∧ (bookS 3).unitBit HL_FENCE 67 = false ∧
    pNum (packet 0x41 8 (toBytes 2 0x143)) 18 6 = 0 ∧ (fencedS []).ostler.struck = [] ∧ (fencedS []).coach.receipts = [] :=
  ⟨taking_of _ (by decide +kernel), by decide +kernel⟩
theorem test_BookingUnits_rescue : fld (0x2FF#16) 15 8 = 2 ∧ fld (0x2FF#16) 7 0 = (255#8).toNat ∧
    (let s : State := { bookS 3 with ostler := ⟨[0x2FF], [], [], [], []⟩ }
     s.phase = .run ∧ s.ostler.todo = [0x2FF] ∧ s.ostler.rescued = [] ∧ s.ostler.mute = [] ∧ s.yard.bad = [] ∧ s.yard.weak = []) := by
  decide +kernel
def resettingS : State := { bookS 3 with core := { (bookS 3).core with run := .resetting } }
theorem test_BookingUnits_reset_absorbed : resettingS.taking ∧ resettingS.f CM_STATE 2 0 = 3 ∧ resettingS.core.run = .resetting ∧
    resettingS.tt = 0 ∧ resettingS.coach.commit = none :=
  ⟨taking_of _ (by decide +kernel), by decide +kernel, rfl, by decide +kernel, rfl⟩
def dumpP : Packet := packet 0x50 16 (toBytes 8 0x10000 ++ toBytes 8 0x25040)
theorem test_BookingUnits_dump : (bookS 3).taking ∧ (bookS 3).coach.dump = none ∧ packetForm dumpP 0x50 16 ∧ pNum dumpP 16 8 % 64 = 0 ∧
    0x25040 ≤ pNum dumpP 24 8 ∧ (bookS 3).place (pNum dumpP 16 8) = .dram ∧
    (bookS 3).place (pNum dumpP 16 8 + (pNum dumpP 24 8 - 1)) = .dram ∧ (bookS 3).b RL_DRAG 63 = false :=
  ⟨taking_of _ (by decide +kernel), rfl, form_of _ _ _ (by decide +kernel), by decide +kernel⟩
theorem test_BookingUnits_dump_done : (List.replicate 0x25040 (3 : Byte)).length = 0x25040 := List.length_replicate
theorem test_BookingUnits_reset : packetForm (packet 5 8 (toBytes 8 1)) 5 8 ∧ pNum (packet 5 8 (toBytes 8 1)) 16 8 = 1 ∧
    packetForm (packet 5 8 (toBytes 8 2)) 5 8 ∧ pNum (packet 5 8 (toBytes 8 2)) 16 8 = 2 ∧ (bookS 3).core.run ≠ .resetting ∧ (bookS 3).tt = 0 :=
  ⟨form_of _ _ _ (by decide +kernel), by decide +kernel, form_of _ _ _ (by decide +kernel), by decide +kernel⟩
theorem test_CanonicalKept : State.reset.canonical = true ∧ ∃ t, step State.reset = .next t := ⟨by decide +kernel, _, rfl⟩

end Sys2Proof.Tests
end

section
/-! SUPPORT. Tile management in core mode (R191 to R196): the fields of its four instruction words, how one is accepted, what each of
the four effects writes and leaves, and from these the statement of the family. -/

namespace Sys2Proof.Machine

/-! ## Fields of a word made of parts -/

/-- A field inside the low part of a word is that field of the part. -/
theorem fld_append_low {n m : Nat} (x : BitVec n) (y : BitVec m) (hi lo : Nat) (h : hi < m) :
    fld (x ++ y) hi lo = fld y hi lo := by
  apply Nat.eq_of_testBit_eq
  intro j
  rw [testBit_fld, testBit_fld, BitVec.getLsbD_append]
  by_cases hj : j < hi + 1 - lo
  · rw [if_pos (by omega)]
  · simp [hj]

/-- A field inside the high part of a word is the shifted field of the part. -/
theorem fld_append_high {n m : Nat} (x : BitVec n) (y : BitVec m) (hi lo : Nat) (h : m ≤ lo) (hl : lo ≤ hi) :
    fld (x ++ y) hi lo = fld x (hi - m) (lo - m) := by
  apply Nat.eq_of_testBit_eq
  intro j
  rw [testBit_fld, testBit_fld, BitVec.getLsbD_append, if_neg (by omega), Nat.sub_add_comm h,
    show hi - m + 1 - (lo - m) = hi + 1 - lo by omega]

/-- A field that covers a whole word is its number. -/
theorem fld_whole {n : Nat} (x : BitVec n) (hi : Nat) (h : n ≤ hi + 1) : fld x hi 0 = x.toNat := by
  rw [fld, Nat.shiftRight_zero, Nat.sub_zero, Nat.mod_eq_of_lt]
  exact lt_of_lt_of_le x.isLt (Nat.pow_le_pow_right (by omega) h)

/-! ## The four words (R191) -/

/-- TSHAPE of a tile to rows + 1 rows and width + 1 groups of 64 bytes. -/
def tshapeWord (tile : BitVec 4) (rows : BitVec 6) (width : BitVec 4) : Insn := 0x2C#6 ++ 0#4 ++ tile ++ rows ++ width ++ 0#8
/-- TZERO of a tile. -/
def tzeroWord (tile : BitVec 4) : Insn := 0x2C#6 ++ 1#4 ++ tile ++ 0#18
/-- TRELEASE of the tiles (A = 0) or of the accumulators (A = 1) of a mask. -/
def treleaseWord (A : BitVec 1) (mask : BitVec 16) : Insn := 0x2C#6 ++ 2#4 ++ A ++ 0#5 ++ mask
/-- TSCALE of an accumulator from a general register. -/
def tscaleWord (acc : BitVec 4) (gs : BitVec 5) : Insn := 0x2C#6 ++ 5#4 ++ acc ++ 0#13 ++ gs

section Words
variable (tile : BitVec 4) (rows : BitVec 6) (width acc : BitVec 4) (A : BitVec 1) (mask : BitVec 16) (gs : BitVec 5)

/-! The sums of widths stay as written (`-Nat.reduceAdd`), so that the laws of `++` apply at every part of the word. -/

theorem tshapeWord_legal : tmIllegal (tshapeWord tile rows width) 0 = false := by
  simp [-Nat.reduceAdd, -BitVec.reduceAppend, tmIllegal, opcode, tmSub, tshapeWord, fld_append_low, fld_append_high, fld_whole]
theorem tzeroWord_legal : tmIllegal (tzeroWord tile) 1 = false := by
  simp [-Nat.reduceAdd, -BitVec.reduceAppend, tmIllegal, opcode, tmSub, tzeroWord, fld_append_low, fld_append_high, fld_whole]
theorem treleaseWord_legal : tmIllegal (treleaseWord A mask) 2 = false := by
  simp [-Nat.reduceAdd, -BitVec.reduceAppend, tmIllegal, opcode, tmSub, treleaseWord, fld_append_low, fld_append_high, fld_whole]
theorem tscaleWord_legal : tmIllegal (tscaleWord acc gs) 5 = false := by
  simp [-Nat.reduceAdd, -BitVec.reduceAppend, tmIllegal, opcode, tmSub, tscaleWord, fld_append_low, fld_append_high, fld_whole]

@[simp] theorem tmTile_tshapeWord : tmTile (tshapeWord tile rows width) = tile.toNat := by
  simp [-Nat.reduceAdd, tmTile, tshapeWord, fld_append_low, fld_append_high, fld_whole]
@[simp] theorem fld_rows_tshapeWord : fld (tshapeWord tile rows width) 17 12 = rows.toNat := by
  simp [-Nat.reduceAdd, tshapeWord, fld_append_low, fld_append_high, fld_whole]
@[simp] theorem fld_width_tshapeWord : fld (tshapeWord tile rows width) 11 8 = width.toNat := by
  simp [-Nat.reduceAdd, tshapeWord, fld_append_low, fld_append_high, fld_whole]
@[simp] theorem tmTile_tzeroWord : tmTile (tzeroWord tile) = tile.toNat := by
  simp [-Nat.reduceAdd, tmTile, tzeroWord, fld_append_low, fld_append_high, fld_whole]
@[simp] theorem bit_A_treleaseWord : bit (treleaseWord A mask) 21 = A.getLsbD 0 := by
  rw [bit, treleaseWord, BitVec.getLsbD_append, if_neg (by decide), BitVec.getLsbD_append, if_neg (by decide),
    BitVec.getLsbD_append, if_pos (by decide)]
theorem bit_mask_treleaseWord (i : Nat) (h : i < 16) : bit (treleaseWord A mask) i = mask.getLsbD i := by
  rw [bit, treleaseWord, BitVec.getLsbD_append, if_pos h]
@[simp] theorem tmTile_tscaleWord : tmTile (tscaleWord acc gs) = acc.toNat := by
  simp [-Nat.reduceAdd, tmTile, tscaleWord, fld_append_low, fld_append_high, fld_whole]
@[simp] theorem fld_gs_tscaleWord : fld (tscaleWord acc gs) 4 0 = gs.toNat := by
  simp [-Nat.reduceAdd, tscaleWord, fld_append_low, fld_whole]

end Words

/-- A word that meets the rules of a subop carries it. -/
theorem tmSub_of_legal {w : Insn} {sub : Nat} (h : tmIllegal w sub = false) : tmSub w = sub := by
  simp only [tmIllegal, Bool.or_eq_false_iff, decide_eq_false_iff_not, not_not] at h
  exact h.1.2

/-! ## Acceptance (R191, R197) -/

/-- In core mode a legal word of a subop the core may use has its effect. -/
theorem tmanage_core (s : State) {w : Insn} {sub : Nat} (hw : tmIllegal w sub = false) (hm : s.tmode = false) :
    s.tmanage w (s.coreSite w) sub =
      .done (s.manageTile w (s.coreSite w) (s.tileRows (tmTile w)) (s.tileW (tmTile w))) := by
  simp [State.tmanage, State.tmCheck, hw, hm, State.coreSite]

/-- In timetable mode a legal word raises TILE_BOUND. -/
theorem tmanage_timetable (s : State) {w : Insn} {sub : Nat} (hw : tmIllegal w sub = false) (hm : s.tmode = true) :
    s.tmanage w (s.coreSite w) sub = .fault .tileBound 0 s := by
  simp [State.tmanage, State.tmCheck, hw, hm, State.coreSite]

theorem ready_of_readyT {s : State} (h : s.readyT = true) : s.ready = true := by
  simp only [State.readyT, Bool.and_eq_true] at h
  exact h.1.1.1.1

/-- A core that is ready for a tensor instruction takes the effect and goes on. -/
theorem byCore_tmanage_core (s : State) (i : Instr) {w : Insn} {sub : Nat} (hr : s.readyT = true) (hm : s.tmode = false)
    (hw : tmIllegal w sub = false) : s.byCore i w (fun t => t.tmanage w (t.coreSite w) sub) =
      (s.manageTile w (s.coreSite w) (s.tileRows (tmTile w)) (s.tileW (tmTile w))).retire (s.core.pc + 4) := by
  rw [byCore_ready s i w _ (ready_of_readyT hr) (.inr (stationBusy_ready s w hr)), tmanage_core s hw hm, finish_done]

/-- In timetable mode a core that is ready takes the fault. -/
theorem byCore_tmanage_timetable (s : State) (i : Instr) {w : Insn} {sub : Nat} (hr : s.ready = true) (hm : s.tmode = true)
    (hw : tmIllegal w sub = false) : s.byCore i w (fun t => t.tmanage w (t.coreSite w) sub) =
      s.syncFault .tileBound 0 s.core.pc w := by
  rw [byCore_ready s i w _ hr (.inl hm), tmanage_timetable s hw hm, finish_fault]

/-! ## The parts of the effects -/

section Parts
variable (s : State) (T i : Nat)

@[simp] theorem dropSlices_core : (s.dropSlices T).core = s.core := rfl
@[simp] theorem dropSlices_yard : (s.dropSlices T).yard = s.yard := rfl
@[simp] theorem dropSlices_accs : (s.dropSlices T).tensor.accs = s.tensor.accs := rfl
@[simp] theorem dropSlices_vregs : (s.dropSlices T).tensor.vregs = s.tensor.vregs := rfl
@[simp] theorem dropSlices_tiles : (s.dropSlices T).tensor.tiles = s.tensor.tiles := rfl
@[simp] theorem dropSlices_rd (o : Nat) : (s.dropSlices T).rd o = s.rd o := rfl

@[simp] theorem tileClear_core : (s.tileClear T).core = s.core := rfl
@[simp] theorem tileClear_yard : (s.tileClear T).yard = s.yard := rfl
@[simp] theorem tileClear_accs : (s.tileClear T).tensor.accs = s.tensor.accs := rfl
@[simp] theorem tileClear_vregs : (s.tileClear T).tensor.vregs = s.tensor.vregs := rfl
@[simp] theorem tileClear_tiles : (s.tileClear T).tensor.tiles = s.tensor.tiles.clear (T * 65536) 65536 := rfl
@[simp] theorem tileClear_rd (o : Nat) : (s.tileClear T).rd o = s.rd o := rfl

/-- In core mode the record of the next row is cleared (R180). -/
@[simp] theorem clearStart_coreSite (w : Insn) (u : State) : s.clearStart (u.coreSite w) = s.setB TF_START 63 false := rfl

@[simp] theorem retire_tensor (p : Word) : (s.retire p).tensor = s.tensor := rfl
@[simp] theorem retire_g (p : Word) : (s.retire p).core.g = s.core.g := rfl
@[simp] theorem retire_rd (p : Word) (o : Nat) : (s.retire p).rd o = s.rd o := rfl

/-- Bit j of a word after one of its bits is set, whatever j is. -/
theorem bit_setBit (w : Word) (j : Nat) (v : Bool) (hi : i < 64) : bit (setBit w i v) j = if j = i then v else bit w j := by
  by_cases hj : j = i
  · rw [if_pos hj, hj, bit_setBit_same _ _ _ hi]
  · rw [if_neg hj]
    by_cases h64 : j < 64
    · exact bit_setBit_other _ _ _ _ h64 hj
    · rw [bit, bit, BitVec.getLsbD_of_ge _ _ (by omega), BitVec.getLsbD_of_ge _ _ (by omega)]

end Parts

/-! ## TSHAPE (R192) -/

theorem shape_ne (T : Nat) : TF_SHAPE T ≠ TF_INUSE ∧ TF_SHAPE T ≠ TF_START := by
  simp only [TF_SHAPE, TF_INUSE, TF_START]
  omega

theorem tmTile_lt (w : Insn) : tmTile w < 16 := fld_lt w 21 18

section Shape
variable (s u : State) (w : Insn)

/-- TSHAPE writes the shape, the in-use bit and the record of the next row, and no other register. -/
theorem shapeTile_rd (o : Nat) : (s.shapeTile w (u.coreSite w)).rd o =
    if o = TF_START then setBit (s.rd TF_START) 63 false
    else if o = TF_INUSE then setBit (s.rd TF_INUSE) (tmTile w) false
    else if o = TF_SHAPE (tmTile w) then setFld (setFld (s.rd (TF_SHAPE (tmTile w))) 5 0 (fld w 17 12)) 11 8 (fld w 11 8)
    else s.rd o := by
  obtain ⟨hi, hs⟩ := shape_ne (tmTile w)
  have his : TF_INUSE ≠ TF_START := by decide
  simp only [State.shapeTile, clearStart_coreSite, rd_setB, dropSlices_rd, tileClear_rd, rd_setF, hi.symm, hs.symm, his.symm, if_true,
    if_false]
  by_cases ho : o = TF_SHAPE (tmTile w)
  · simp only [ho, if_true]
  · simp only [ho, if_false]

@[simp] theorem shapeTile_core : (s.shapeTile w (u.coreSite w)).core = s.core := by simp [State.shapeTile]
@[simp] theorem shapeTile_yard : (s.shapeTile w (u.coreSite w)).yard = s.yard := by simp [State.shapeTile]

/-- TSHAPE zeroes its tile. -/
theorem shapeTile_tensor : (s.shapeTile w (u.coreSite w)).tensor = ((s.tileClear (tmTile w)).dropSlices (tmTile w)).tensor := rfl

theorem shapeTile_tileUsed (v : Nat) :
    (s.shapeTile w (u.coreSite w)).tileUsed v = if v = tmTile w then false else s.tileUsed v := by
  have his : TF_INUSE ≠ TF_START := by decide
  have := tmTile_lt w
  rw [State.tileUsed, State.b, shapeTile_rd, if_neg his, if_pos rfl, bit_setBit _ _ _ _ (by omega)]
  rfl

theorem shapeTile_tileRows : (s.shapeTile w (u.coreSite w)).tileRows (tmTile w) = fld w 17 12 + 1 := by
  obtain ⟨hi, hs⟩ := shape_ne (tmTile w)
  have hf : fld w 17 12 < 2 ^ 6 := fld_lt w 17 12
  rw [State.tileRows, State.f, shapeTile_rd, if_neg hs, if_neg hi, if_pos rfl, fld_setFld_other _ _ _ _ _ _ (by decide) (by decide)
    (by decide), fld_setFld_same _ _ _ _ (by decide) (by decide), Nat.mod_eq_of_lt hf]

theorem shapeTile_tileW : (s.shapeTile w (u.coreSite w)).tileW (tmTile w) = (fld w 11 8 + 1) * 64 := by
  obtain ⟨hi, hs⟩ := shape_ne (tmTile w)
  have hf : fld w 11 8 < 2 ^ 4 := fld_lt w 11 8
  rw [State.tileW, State.f, shapeTile_rd, if_neg hs, if_neg hi, if_pos rfl, fld_setFld_same _ _ _ _ (by decide) (by decide),
    Nat.mod_eq_of_lt hf]

end Shape

/-! ## TZERO (R193) -/

/-- What a memory reads after wd bytes of each of some rows are cleared. -/
theorem look_clearRows (base wd k : Nat) (rows : List Nat) (m : Mem) :
    look zeroByte k (rows.foldl (fun (m : Mem) r => Mem.clear m (base + r * 1024) wd) m) =
      if ∃ r ∈ rows, base + r * 1024 ≤ k ∧ k < base + r * 1024 + wd then 0 else look zeroByte k m := by
  induction rows generalizing m with
  | nil => simp
  | cons r rows ih =>
    rw [List.foldl_cons, ih, Mem.look_clear]
    simp only [List.exists_mem_cons_iff]
    by_cases hrest : ∃ r' ∈ rows, base + r' * 1024 ≤ k ∧ k < base + r' * 1024 + wd
    · rw [if_pos hrest, if_pos (.inr hrest)]
    · rw [if_neg hrest]
      by_cases hr : base + r * 1024 ≤ k ∧ k < base + r * 1024 + wd
      · rw [if_neg (by omega), if_pos (.inl hr)]
      · rw [if_pos (by omega), if_neg (not_or.2 ⟨hr, hrest⟩)]

section Zero
variable (s : State) (w : Insn) (h wd : Nat)

theorem zeroTile_rd (o : Nat) :
    (s.zeroTile w h wd).rd o = if o = TF_INUSE then setBit (s.rd TF_INUSE) (tmTile w) true else s.rd o := by
  rw [State.zeroTile, dropSlices_rd, rd_setB]
  rfl

theorem zeroTile_tileUsed (v : Nat) : (s.zeroTile w h wd).tileUsed v = if v = tmTile w then true else s.tileUsed v := by
  have := tmTile_lt w
  rw [State.tileUsed, State.b, zeroTile_rd, if_pos rfl, bit_setBit _ _ _ _ (by omega)]
  rfl

theorem zeroTile_look (k : Nat) : look zeroByte k (s.zeroTile w h wd).tensor.tiles =
    if ∃ r < h, tmTile w * 65536 + r * 1024 ≤ k ∧ k < tmTile w * 65536 + r * 1024 + wd then 0
    else look zeroByte k s.tensor.tiles := by
  have := look_clearRows (tmTile w * 65536) wd k (List.range h) s.tensor.tiles
  simp only [List.mem_range] at this
  exact this

end Zero

theorem tileRows_le (s : State) (T : Nat) : s.tileRows T ≤ 64 := by
  have : s.f (TF_SHAPE T) 5 0 < 64 := fld_lt _ 5 0
  rw [State.tileRows]
  omega

theorem tileW_le (s : State) (T : Nat) : s.tileW T ≤ 1024 := by
  have : s.f (TF_SHAPE T) 11 8 < 16 := fld_lt _ 11 8
  rw [State.tileW]
  omega

/-! ## TRELEASE (R194) -/

/-- One tile leaves the tiles in use. -/
def State.releaseTile (s : State) (i : Nat) : State := (s.setB TF_INUSE i false).dropSlices i

/-- The numbers that the mask of a TRELEASE names. -/
def released (w : Insn) : List Nat := (List.range 16).filter (fun i => bit w i)

theorem mem_released (w : Insn) (i : Nat) : i ∈ released w ↔ i < 16 ∧ bit w i = true := by
  rw [released, List.mem_filter, List.mem_range]

theorem release_tiles_eq (s : State) (w : Insn) (h : bit w 21 = false) :
    s.release w = (released w).foldl State.releaseTile s := by
  rw [State.release, h]
  rfl

theorem release_accs_eq (s : State) (w : Insn) (h : bit w 21 = true) :
    s.release w = (released w).foldl State.releaseAcc s := by
  rw [State.release, h]
  rfl

/-- What every step of a fold over states keeps, the fold keeps. -/
theorem foldl_keeps {α : Type} (p : State → α) (f : State → Nat → State) (hf : ∀ u i, p (f u i) = p u) (l : List Nat)
    (s : State) : p (l.foldl f s) = p s := by
  induction l generalizing s with
  | nil => rfl
  | cons i l ih => rw [List.foldl_cons, ih, hf]

/-- A flag that each step of a fold clears where it meets the flag's number is cleared by a list that has that number. -/
theorem foldl_clears (p : State → Bool) (f : State → Nat → State) (n : State → Nat) (hn : ∀ u i, n (f u i) = n u)
    (hf : ∀ u, ∀ i < 16, p (f u i) = (p u && decide (n u ≠ i))) (l : List Nat) (hl : ∀ i ∈ l, i < 16) (s : State) :
    p (l.foldl f s) = (p s && decide (n s ∉ l)) := by
  induction l generalizing s with
  | nil => simp
  | cons i l ih =>
    rw [List.foldl_cons, ih (fun j hj => hl j (List.mem_cons_of_mem _ hj)), hf _ _ (hl i List.mem_cons_self), hn]
    simp [Bool.and_assoc]

section ReleaseTile
variable (s : State) (i : Nat)

theorem releaseTile_rd (o : Nat) (h : o ≠ TF_INUSE) : (s.releaseTile i).rd o = s.rd o := by
  rw [State.releaseTile, dropSlices_rd, rd_setB, if_neg h]

theorem releaseTile_tileUsed (v : Nat) (hi : i < 16) : (s.releaseTile i).tileUsed v = (s.tileUsed v && decide (v ≠ i)) := by
  rw [State.tileUsed, State.b, State.releaseTile, dropSlices_rd, rd_setB, if_pos rfl, bit_setBit _ _ _ _ (by omega)]
  by_cases h : v = i <;> simp [h, State.tileUsed, State.b]

end ReleaseTile

/-- The accumulator whose in-use bit an entry shows: an error store shows that of its pair (R105). -/
def State.shownAcc (s : State) (a : Nat) : Nat := if s.errStore a then a - 1 else a

theorem shownAcc_lt (s : State) {a : Nat} (h : a < 16) : s.shownAcc a < 16 := by
  unfold State.shownAcc
  split <;> omega

theorem errStore_iff (s : State) (a : Nat) : s.errStore a = true ↔ a % 2 = 1 ∧ s.sumMode (a - 1) = 1 := by
  rw [State.errStore, Bool.and_eq_true, decide_eq_true_eq, decide_eq_true_eq]

section ReleaseAcc
variable (s : State) (i : Nat)

@[simp] theorem releaseAcc_core : (s.releaseAcc i).core = s.core := by
  unfold State.releaseAcc
  dsimp only
  split_ifs <;> rfl
@[simp] theorem releaseAcc_yard : (s.releaseAcc i).yard = s.yard := by
  unfold State.releaseAcc
  dsimp only
  split_ifs <;> rfl
@[simp] theorem releaseAcc_tensor : (s.releaseAcc i).tensor = s.tensor := by
  unfold State.releaseAcc
  dsimp only
  split_ifs <;> rfl

theorem releaseAcc_rd (o : Nat) (h : o ≠ MX_ACCINUSE) : (s.releaseAcc i).rd o = s.rd o := by
  unfold State.releaseAcc
  dsimp only
  split_ifs <;> simp [h]

theorem releaseAcc_shownAcc (a : Nat) : (s.releaseAcc i).shownAcc a = s.shownAcc a := by
  have hm : (s.releaseAcc i).sumMode (a - 1) = s.sumMode (a - 1) := by
    rw [State.sumMode, State.f, releaseAcc_rd s i MX_SUMMODE (by decide)]
    rfl
  rw [State.shownAcc, State.errStore, hm]
  rfl

/-- The entries that show an accumulator: itself, and its error store while a compensated pair is in force (R105). -/
theorem shownAcc_eq_iff (a : Nat) (he : s.errStore i = false) :
    s.shownAcc a = i ↔ a = i ∨ a = i + 1 ∧ s.sumMode i = 1 ∧ i % 2 = 0 := by
  unfold State.shownAcc
  cases ha : s.errStore a with
  | true =>
    obtain ⟨hodd, hpair⟩ := (errStore_iff s a).1 ha
    have hne : a ≠ i := fun h => by rw [h, he] at ha; cases ha
    rw [if_pos rfl]
    constructor
    · rintro rfl
      exact .inr ⟨by omega, hpair, by omega⟩
    · omega
  | false =>
    have hne : ¬ (a = i + 1 ∧ s.sumMode i = 1 ∧ i % 2 = 0) := by
      rintro ⟨rfl, hpair, heven⟩
      have := (errStore_iff s (i + 1)).2 ⟨by omega, hpair⟩
      rw [this] at ha
      cases ha
    simp [hne]

/-- No entry shows an error store. -/
theorem shownAcc_ne_errStore (a : Nat) (he : s.errStore i = true) : s.shownAcc a ≠ i := by
  obtain ⟨hodd, _⟩ := (errStore_iff s i).1 he
  unfold State.shownAcc
  split
  next ha =>
    obtain ⟨_, _⟩ := (errStore_iff s a).1 ha
    omega
  next ha => exact fun h => ha (h ▸ he)

theorem setB_inUse_false (a : Nat) (hi : i < 64) :
    (s.setB MX_ACCINUSE i false).b MX_ACCINUSE a = (s.b MX_ACCINUSE a && decide (a ≠ i)) := by
  rw [State.b, rd_setB, if_pos rfl, bit_setBit _ _ _ _ hi]
  by_cases h : a = i <;> simp [h, State.b]

/-- The release of an accumulator clears the in-use bits of the entries that show it. -/
theorem releaseAcc_inUse (a : Nat) (hi : i < 16) :
    (s.releaseAcc i).b MX_ACCINUSE a = (s.b MX_ACCINUSE a && decide (s.shownAcc a ≠ i)) := by
  cases he : s.errStore i with
  | true => simp [State.releaseAcc, he, shownAcc_ne_errStore s i a he]
  | false =>
    simp only [ne_eq, shownAcc_eq_iff s i a he]
    by_cases hp : s.sumMode i = 1 ∧ i % 2 = 0
    · simp [State.releaseAcc, he, hp, setB_inUse_false _ i a (by omega), setB_inUse_false _ (i + 1) a (by omega), Bool.and_assoc]
    · simp [State.releaseAcc, he, hp, setB_inUse_false _ i a (by omega)]

end ReleaseAcc

theorem release_tiles_tileUsed (s : State) (w : Insn) (h : bit w 21 = false) (v : Nat) (hv : v < 16) :
    (s.release w).tileUsed v = (s.tileUsed v && !bit w v) := by
  rw [release_tiles_eq s w h, foldl_clears (·.tileUsed v) State.releaseTile (fun _ => v) (fun _ _ => rfl)
    (fun u i hi => releaseTile_tileUsed u i v hi) _ (fun i hi => ((mem_released w i).1 hi).1)]
  simp [mem_released, hv]

theorem release_accs_inUse (s : State) (w : Insn) (h : bit w 21 = true) (a : Nat) (ha : a < 16) :
    (s.release w).b MX_ACCINUSE a = (s.b MX_ACCINUSE a && !bit w (s.shownAcc a)) := by
  have hs : s.shownAcc a < 16 := shownAcc_lt s ha
  rw [release_accs_eq s w h, foldl_clears (·.b MX_ACCINUSE a) State.releaseAcc (·.shownAcc a) (fun u i => releaseAcc_shownAcc u i a)
    (fun u i hi => releaseAcc_inUse u i a hi) _ (fun i hi => ((mem_released w i).1 hi).1)]
  simp [mem_released, hs]

/-- TRELEASE changes the in-use bits of the kind it names, and no other register. -/
theorem release_rd (s : State) (w : Insn) (o : Nat) (h : o ≠ if bit w 21 then MX_ACCINUSE else TF_INUSE) :
    (s.release w).rd o = s.rd o := by
  cases hA : bit w 21 with
  | false =>
    rw [hA] at h
    rw [release_tiles_eq s w hA]
    exact foldl_keeps (·.rd o) _ (fun u i => releaseTile_rd u i o h) _ s
  | true =>
    rw [hA] at h
    rw [release_accs_eq s w hA]
    exact foldl_keeps (·.rd o) _ (fun u i => releaseAcc_rd u i o h) _ s

/-- What neither kind of release changes. -/
theorem release_keeps {α : Type} (p : State → α) (ht : ∀ u i, p (State.releaseTile u i) = p u)
    (ha : ∀ u i, p (State.releaseAcc u i) = p u) (s : State) (w : Insn) : p (s.release w) = p s := by
  cases hA : bit w 21 with
  | false => rw [release_tiles_eq s w hA, foldl_keeps p _ ht]
  | true => rw [release_accs_eq s w hA, foldl_keeps p _ ha]

/-! ## TSCALE (R195) -/

section Scale
variable (s u : State) (w : Insn)

theorem scaleAcc_rd (o : Nat) (h : o ≠ MX_ACCSCALE (tmTile w)) : (s.scaleAcc w (u.coreSite w)).rd o = s.rd o := by
  rw [State.scaleAcc, rd_wins, rd_setF, if_neg h]

/-- The scale is the low half of the register that gs names. -/
theorem scaleAcc_f : (s.scaleAcc w (u.coreSite w)).f (MX_ACCSCALE (tmTile w)) 31 0 = (u.g (fld w 4 0)).toNat % 2 ^ 32 := by
  have h : (s.scaleAcc w (u.coreSite w)).f (MX_ACCSCALE (tmTile w)) 31 0 =
      (s.setF (MX_ACCSCALE (tmTile w)) 31 0 (fld (u.g (fld w 4 0)) 31 0)).f (MX_ACCSCALE (tmTile w)) 31 0 := rfl
  rw [h, f_setF_same _ _ _ _ _ (by decide) (by decide), fld, Nat.shiftRight_zero]
  exact Nat.mod_mod _ _

end Scale

/-! ## The statement -/

/-- What tile management leaves in core mode: the general registers, the Yard, the accumulators, the vector registers and the tiles
other than tile T; the core goes on at the next instruction. -/
def Managed (s t : State) (T : Nat) : Prop :=
  t.core.pc = s.core.pc + 4 ∧ t.core.g = s.core.g ∧ t.yard = s.yard ∧ t.tensor.accs = s.tensor.accs ∧
    t.tensor.vregs = s.tensor.vregs ∧
    ∀ x, x < T * 65536 ∨ (T + 1) * 65536 ≤ x → t.tensor.tiles.read x 1 = s.tensor.tiles.read x 1

/-- An effect that keeps the core, the Yard and the other tensor stores is managed as it retires. -/
theorem managed_retire {s u : State} {T : Nat} (hc : u.core = s.core) (hy : u.yard = s.yard) (ha : u.tensor.accs = s.tensor.accs)
    (hv : u.tensor.vregs = s.tensor.vregs)
    (ht : ∀ x, x < T * 65536 ∨ (T + 1) * 65536 ≤ x → look zeroByte x u.tensor.tiles = look zeroByte x s.tensor.tiles) :
    Managed s (u.retire (s.core.pc + 4)) T := by
  refine ⟨rfl, ?_, hy, ha, hv, fun x hx => ?_⟩
  · rw [retire_g, hc]
  · rw [retire_tensor, read1, read1, ht x hx]

theorem managed_tshape (s : State) (w : Insn) :
    Managed s ((s.shapeTile w (s.coreSite w)).retire (s.core.pc + 4)) (tmTile w) := by
  refine managed_retire (shapeTile_core s s w) (shapeTile_yard s s w) ?_ ?_ fun x hx => ?_
  · rw [shapeTile_tensor, dropSlices_accs, tileClear_accs]
  · rw [shapeTile_tensor, dropSlices_vregs, tileClear_vregs]
  · rw [shapeTile_tensor, dropSlices_tiles, tileClear_tiles, Mem.look_clear, if_pos (by omega)]

theorem managed_tzero (s : State) (w : Insn) (T : Nat) :
    Managed s ((s.zeroTile w (s.tileRows T) (s.tileW T)).retire (s.core.pc + 4)) (tmTile w) := by
  refine managed_retire rfl rfl rfl rfl fun x hx => ?_
  have hh := tileRows_le s T
  have hw := tileW_le s T
  rw [zeroTile_look, if_neg]
  rintro ⟨r, hr, hlo, hhi⟩
  omega

theorem release_tensor_tiles (s : State) (w : Insn) : (s.release w).tensor.tiles = s.tensor.tiles :=
  release_keeps (·.tensor.tiles) (fun _ _ => rfl) (fun u i => congrArg Tensor.tiles (releaseAcc_tensor u i)) s w

theorem managed_trelease (s : State) (w : Insn) (T : Nat) : Managed s ((s.release w).retire (s.core.pc + 4)) T :=
  managed_retire (release_keeps (·.core) (fun _ _ => rfl) releaseAcc_core s w)
    (release_keeps (·.yard) (fun _ _ => rfl) releaseAcc_yard s w)
    (release_keeps (·.tensor.accs) (fun _ _ => rfl) (fun u i => congrArg Tensor.accs (releaseAcc_tensor u i)) s w)
    (release_keeps (·.tensor.vregs) (fun _ _ => rfl) (fun u i => congrArg Tensor.vregs (releaseAcc_tensor u i)) s w)
    fun _ _ => by rw [release_tensor_tiles]

theorem managed_tscale (s : State) (w : Insn) (T : Nat) : Managed s ((s.scaleAcc w (s.coreSite w)).retire (s.core.pc + 4)) T :=
  managed_retire rfl rfl rfl rfl fun _ _ => rfl

/-! ## The commands -/

section Exec
variable (s : State) {w : Insn}

section Core
variable (hr : s.readyT = true) (hm : s.tmode = false)
include hr hm

theorem exec_tshape_core (hl : tmIllegal w 0 = false) :
    exec (.tshape w) s = .next ((s.shapeTile w (s.coreSite w)).retire (s.core.pc + 4)) :=
  congrArg Host.Outcome.next ((byCore_tmanage_core s (.tshape w) hr hm hl).trans (by simp only [State.manageTile, tmSub_of_legal hl]))

theorem exec_tzero_core (hl : tmIllegal w 1 = false) :
    exec (.tzero w) s = .next ((s.zeroTile w (s.tileRows (tmTile w)) (s.tileW (tmTile w))).retire (s.core.pc + 4)) :=
  congrArg Host.Outcome.next ((byCore_tmanage_core s (.tzero w) hr hm hl).trans (by simp only [State.manageTile, tmSub_of_legal hl]))

theorem exec_trelease_core (hl : tmIllegal w 2 = false) : exec (.trelease w) s = .next ((s.release w).retire (s.core.pc + 4)) :=
  congrArg Host.Outcome.next ((byCore_tmanage_core s (.trelease w) hr hm hl).trans (by simp only [State.manageTile, tmSub_of_legal hl]))

theorem exec_tscale_core (hl : tmIllegal w 5 = false) :
    exec (.tscale w) s = .next ((s.scaleAcc w (s.coreSite w)).retire (s.core.pc + 4)) :=
  congrArg Host.Outcome.next ((byCore_tmanage_core s (.tscale w) hr hm hl).trans (by simp only [State.manageTile, tmSub_of_legal hl]))

end Core

section Timetable
variable (hr : s.ready = true) (hm : s.tmode = true)
include hr hm

theorem exec_tshape_timetable (hl : tmIllegal w 0 = false) :
    exec (.tshape w) s = .next (s.syncFault .tileBound 0 s.core.pc w) :=
  congrArg Host.Outcome.next (byCore_tmanage_timetable s (.tshape w) hr hm hl)

theorem exec_tzero_timetable (hl : tmIllegal w 1 = false) :
    exec (.tzero w) s = .next (s.syncFault .tileBound 0 s.core.pc w) :=
  congrArg Host.Outcome.next (byCore_tmanage_timetable s (.tzero w) hr hm hl)

theorem exec_trelease_timetable (hl : tmIllegal w 2 = false) :
    exec (.trelease w) s = .next (s.syncFault .tileBound 0 s.core.pc w) :=
  congrArg Host.Outcome.next (byCore_tmanage_timetable s (.trelease w) hr hm hl)

theorem exec_tscale_timetable (hl : tmIllegal w 5 = false) :
    exec (.tscale w) s = .next (s.syncFault .tileBound 0 s.core.pc w) :=
  congrArg Host.Outcome.next (byCore_tmanage_timetable s (.tscale w) hr hm hl)

end Timetable

end Exec

/-! ## The four instructions in core mode -/

section Instructions
variable (s : State) (hr : s.readyT = true) (hm : s.tmode = false)
include hr hm

/-- TSHAPE gives the tile its shape and leaves it empty, out of use and with no row recorded (R171, R192). -/
theorem tshape_core (tile : BitVec 4) (rows : BitVec 6) (width : BitVec 4) :
    ∃ t, exec (.tshape (tshapeWord tile rows width)) s = .next t ∧ t.tileRows tile.toNat = rows.toNat + 1 ∧
      t.tileW tile.toNat = (width.toNat + 1) * 64 ∧ t.tileUsed tile.toNat = false ∧
      (∀ x, tile.toNat * 65536 ≤ x → x < (tile.toNat + 1) * 65536 → t.tensor.tiles.read x 1 = [0]) ∧ t.b TF_START 63 = false ∧
      Managed s t tile.toNat ∧ (∀ u, u ≠ tile.toNat → t.tileUsed u = s.tileUsed u) ∧
      ∀ o, o ≠ TF_SHAPE tile.toNat → o ≠ TF_INUSE → o ≠ TF_START → t.rd o = s.rd o := by
  refine ⟨_, exec_tshape_core s hr hm (tshapeWord_legal tile rows width), ?_⟩
  rw [← tmTile_tshapeWord tile rows width, ← fld_rows_tshapeWord tile rows width, ← fld_width_tshapeWord tile rows width]
  generalize tshapeWord tile rows width = w
  refine ⟨shapeTile_tileRows s s w, shapeTile_tileW s s w, ?_, fun x hlo hhi => ?_, ?_, managed_tshape s w, fun u hu => ?_,
    fun o hshape hinuse hstart => ?_⟩
  · exact (shapeTile_tileUsed s s w _).trans (if_pos rfl)
  · rw [retire_tensor, shapeTile_tensor, dropSlices_tiles, tileClear_tiles, read1, Mem.look_clear, if_neg (by omega)]
  · rw [State.b, retire_rd, shapeTile_rd, if_pos rfl, bit_setBit_same _ _ _ (by decide)]
  · exact (shapeTile_tileUsed s s w u).trans (if_neg hu)
  · rw [retire_rd, shapeTile_rd, if_neg hstart, if_neg hinuse, if_neg hshape]

/-- TZERO zeroes the rows of the tile's shape and sets its in-use bit; its other rows stay (R193). -/
theorem tzero_core (tile : BitVec 4) :
    ∃ t, exec (.tzero (tzeroWord tile)) s = .next t ∧ t.tileUsed tile.toNat = true ∧
      (∀ r < s.tileRows tile.toNat, ∀ x < s.tileW tile.toNat, t.tileBytes tile.toNat r x 1 = [0]) ∧
      (∀ r x, r < 64 → x < 1024 → s.tileRows tile.toNat ≤ r → t.tensor.tiles.read (tile.toNat * 65536 + r * 1024 + x) 1 =
        s.tensor.tiles.read (tile.toNat * 65536 + r * 1024 + x) 1) ∧
      Managed s t tile.toNat ∧ (∀ u, u ≠ tile.toNat → t.tileUsed u = s.tileUsed u) ∧ ∀ o, o ≠ TF_INUSE → t.rd o = s.rd o := by
  refine ⟨_, exec_tzero_core s hr hm (tzeroWord_legal tile), ?_⟩
  rw [← tmTile_tzeroWord tile]
  generalize tzeroWord tile = w
  have hused := zeroTile_tileUsed s w (s.tileRows (tmTile w)) (s.tileW (tmTile w))
  have hW := tileW_le s (tmTile w)
  refine ⟨(hused _).trans (if_pos rfl), fun r hrow x hx => ?_, fun r x _ hx hrow => ?_, managed_tzero s w _,
    fun u hu => (hused u).trans (if_neg hu), fun o ho => ?_⟩
  · have h : ((s.zeroTile w (s.tileRows (tmTile w)) (s.tileW (tmTile w))).retire (s.core.pc + 4)).tileUsed (tmTile w) = true :=
      (hused _).trans (if_pos rfl)
    rw [State.tileBytes, if_pos h, retire_tensor, read1, zeroTile_look, if_pos ⟨r, hrow, by omega, by omega⟩]
  · rw [retire_tensor, read1, read1, zeroTile_look, if_neg]
    rintro ⟨q, hq, hlo, hhi⟩
    omega
  · rw [retire_rd, zeroTile_rd, if_neg ho]

/-- TRELEASE takes the tiles, or the accumulators, of its mask out of use and changes no data (R194). -/
theorem trelease_core (T : Nat) (A : BitVec 1) (mask : BitVec 16) :
    ∃ t, exec (.trelease (treleaseWord A mask)) s = .next t ∧ Managed s t T ∧ t.tensor.tiles = s.tensor.tiles ∧
      (A = 0 → (∀ u < 16, t.tileUsed u = (s.tileUsed u && !mask.getLsbD u)) ∧ (∀ o, o ≠ TF_INUSE → t.rd o = s.rd o)) ∧
      (A = 1 → (∀ a < 16, t.b MX_ACCINUSE a = (s.b MX_ACCINUSE a && !mask.getLsbD (if s.errStore a then a - 1 else a))) ∧
        (∀ o, o ≠ MX_ACCINUSE → t.rd o = s.rd o)) := by
  refine ⟨_, exec_trelease_core s hr hm (treleaseWord_legal A mask), managed_trelease s _ T, release_tensor_tiles s _, ?_, ?_⟩
  · rintro rfl
    have hA : bit (treleaseWord 0 mask) 21 = false := by rw [bit_A_treleaseWord]; rfl
    refine ⟨fun u hu => ?_, fun o ho => ?_⟩
    · rw [← bit_mask_treleaseWord 0 mask u hu]
      exact release_tiles_tileUsed s _ hA u hu
    · exact release_rd s _ o (by simpa [hA] using ho)
  · rintro rfl
    have hA : bit (treleaseWord 1 mask) 21 = true := by rw [bit_A_treleaseWord]; rfl
    refine ⟨fun a ha => ?_, fun o ho => ?_⟩
    · have h := release_accs_inUse s _ hA a ha
      rwa [bit_mask_treleaseWord 1 mask _ (shownAcc_lt s ha)] at h
    · exact release_rd s _ o (by simpa [hA] using ho)

/-- TSCALE writes the low half of a general register to an accumulator's scale (R195). -/
theorem tscale_core (T : Nat) (acc : BitVec 4) (gs : BitVec 5) :
    ∃ t, exec (.tscale (tscaleWord acc gs)) s = .next t ∧ Managed s t T ∧
      t.f (MX_ACCSCALE acc.toNat) 31 0 = (s.g gs.toNat).toNat % 2 ^ 32 ∧ t.tensor = s.tensor ∧
      ∀ o, o ≠ MX_ACCSCALE acc.toNat → t.rd o = s.rd o := by
  refine ⟨_, exec_tscale_core s hr hm (tscaleWord_legal acc gs), ?_⟩
  rw [← tmTile_tscaleWord acc gs, ← fld_gs_tscaleWord acc gs]
  generalize tscaleWord acc gs = w
  exact ⟨managed_tscale s w T, scaleAcc_f s s w, rfl, fun o ho => scaleAcc_rd s s w o ho⟩

end Instructions

/-- Settles O24: each of the four is accepted as its word says, and its effect is read off register by register and byte by byte. -/
theorem tileManagement : Obligations.TileManagement := by
  intro s tile acc rows width A mask gs hready
  refine ⟨fun hr hm => ⟨tshape_core s hr hm tile rows width, tzero_core s hr hm tile, trelease_core s hr hm _ A mask,
    tscale_core s hr hm _ acc gs⟩, fun hm => ?_⟩
  exact ⟨exec_tshape_timetable s hready hm (tshapeWord_legal tile rows width), exec_tzero_timetable s hready hm (tzeroWord_legal tile),
    exec_trelease_timetable s hready hm (treleaseWord_legal A mask), exec_tscale_timetable s hready hm (tscaleWord_legal acc gs)⟩

end Sys2Proof.Machine
end

section
/-! SUPPORT. Interrupts (R352): the routing bit, and what makes a pending interrupt eligible at each of the two levels that it can be
routed to; from these the statement of the family. -/

namespace Sys2Proof.Machine

section Interrupt
variable {s : State} {c : Nat}

/-- Causes 0x28 and 0x29 go to M whatever SC_ROUTE holds; any other cause goes where its bit says. -/
theorem irqToM_iff : s.irqToM c = true ↔ s.b SC_ROUTE c = true ∨ c = 0x28 ∨ c = 0x29 := by
  rw [State.irqToM, Bool.or_eq_true, Bool.or_eq_true, decide_eq_true_eq, decide_eq_true_eq, or_comm]

/-- Routed to M, an interrupt is eligible at any privilege level: SC_MASK_M masks it, level 15 only while DF is set. -/
theorem eligible_iff_of_toM (h : s.irqToM c = true) :
    s.eligible c = true ↔ s.irqPending c = true ∧ s.irqLevel c ≠ 0 ∧
      (s.f SC_MASK_M 3 0 < s.irqLevel c ∨ s.irqLevel c = 15 ∧ s.b SC_STATUS 2 = false) := by
  simp only [State.eligible, if_pos h, Bool.and_eq_true, Bool.or_eq_true, decide_eq_true_eq, Bool.not_eq_true', and_assoc]

/-- Routed to S, an interrupt is eligible only at U and S: SC_MASK_S masks it, level 15 never. -/
theorem eligible_iff_of_toS (h : s.irqToM c = false) :
    s.eligible c = true ↔ s.irqPending c = true ∧ s.irqLevel c ≠ 0 ∧
      (s.priv = 0 ∨ s.priv = 1) ∧ (s.f SC_MASK_S 3 0 < s.irqLevel c ∨ s.irqLevel c = 15) := by
  simp only [State.eligible, h, Bool.false_eq_true, if_false, Bool.and_eq_true, Bool.or_eq_true, decide_eq_true_eq, and_assoc,
    Nat.le_one_iff_eq_zero_or_eq_one]

/-- The four ways of R352 in which a pending interrupt is eligible, two for each target level. -/
theorem eligible_iff :
    s.eligible c = true ↔ s.irqPending c = true ∧ s.irqLevel c ≠ 0 ∧
      ((s.irqToM c = false ∧ (s.priv = 0 ∨ s.priv = 1) ∧ s.f SC_MASK_S 3 0 < s.irqLevel c) ∨
       (s.irqToM c = false ∧ (s.priv = 0 ∨ s.priv = 1) ∧ s.irqLevel c = 15) ∨
       (s.irqToM c = true ∧ s.f SC_MASK_M 3 0 < s.irqLevel c) ∨
       (s.irqToM c = true ∧ s.irqLevel c = 15 ∧ s.b SC_STATUS 2 = false)) := by
  cases h : s.irqToM c with
  | false => simp only [eligible_iff_of_toS h, true_and, Bool.false_eq_true, false_and, or_false, and_or_left]
  | true => simp only [eligible_iff_of_toM h, true_and, Bool.true_eq_false, false_and, false_or]

/-- At M an interrupt routed to S waits, whatever its level. -/
theorem not_eligible_of_toS_at_M (h : s.irqToM c = false) (hM : s.priv = 2) : s.eligible c = false := by
  rw [← Bool.not_eq_true, eligible_iff_of_toS h]
  rintro ⟨-, -, hUS, -⟩
  omega

end Interrupt

/-- Settles O10, from the routing, the conditions at the two target levels, and the level M that shuts out what is routed to S. -/
theorem eligible : Obligations.Eligible :=
  fun _ _ => ⟨irqToM_iff, eligible_iff, not_eligible_of_toS_at_M⟩

end Sys2Proof.Machine
end
